-- ==== Sys2Proof/Word.lean ====
section
/-!
DEFINITION. The widths of SHTP-CORE's values (spec 00_scope R10): every value is unsigned, and arithmetic into a
field of width N is modulo 2^N, which is what `BitVec N` does.
-/

namespace Sys2Proof

/-- `u8` (R10): one byte of a frame, a buffer or a counter. -/
abbrev Byte := BitVec 8

/-- `u16` (R10): the `a16` field of a command word. -/
abbrev Half := BitVec 16

/-- `u32` (R10): a command word, an interval, a response value. -/
abbrev Word := BitVec 32

end Sys2Proof
end

