-- ==== Sys2Proof/Config.lean ====
section
/-!
DEFINITION. What the implementation fixes (spec 00_scope R9), the literals of the wire formats in one place
(93_implementation_defined, "The source's own caution"), the Transport's answers, and the free values.

A free value is an opaque constant: it has no body, so nothing can be proved about which value it is.
-/

namespace Sys2Proof

/-- Free value (log 5): which tokens beside 0 are values of `TERR` (R9, D29). The type is OPEN in the spec: it may have one
value, finitely many or infinitely many. -/
opaque Config.errorToken : Nat → Bool

/-- The tokens that are values of `TERR`: 0, so that there is one, and the free ones (log 5). -/
def Config.isError (token : Nat) : Bool := token == 0 || Config.errorToken token

/-- `TERR` (R9, D29): the type of the Transport's error value, taken as a parameter. Its values are the tokens of an
uninterpreted set, so every nonempty type whose values can be written out is some reading of it (log 5). The core never
inspects a value and passes it through verbatim (60_exceptions R138). -/
structure TErr where
  token : Nat
  legal : Config.isError token = true
deriving DecidableEq, Repr

/-- The one value that every reading of `TERR` has. -/
def TErr.first : TErr := { token := 0, legal := rfl }

/-- What the Transport does about an outstanding `setup` or `send` (60_exceptions R150): nothing yet (it "may take any
time, or never answer"), `Ok`, or `Err(e)`. -/
inductive StatusAnswer where
  | silent
  | ok
  | err (e : TErr)
deriving DecidableEq, Repr, Inhabited

/-- What the Transport does about an outstanding `receive` (60_exceptions R150, 20_memory R40, R41): nothing yet,
`Ok(r)` with the `r` bytes it wrote to `rx[0..r)` (here the list of them, so `r` is its length), or `Err(e)`. -/
inductive ReceiveAnswer where
  | silent
  | ok (bytes : List Byte)
  | err (e : TErr)
deriving DecidableEq, Repr, Inhabited

namespace Config

/-- `RX_CAP` (R9). -/
def rxCap : Nat := 1024

/-- `TX_CAP` (R9). -/
def txCap : Nat := 256

/-- `HDR`, the header length (R9). -/
def hdr : Nat := 4

/-- `D_RESET` (R9): time units waited in INIT step 3. -/
def dReset : Nat := 50

/-- `D_SETTLE` (R9): time units waited in INIT step 5. -/
def dSettle : Nat := 50

/-- `D_POLL` (R9): time units waited after each non-empty drain receive. -/
def dPoll : Nat := 1

/-- `LENGTH_CHECK` (R9, 40_codec R91, D11): `true` in this hardware. The machine takes it from the field of `State` that
starts at this value (log 7). -/
def lengthCheck : Bool := true

/-- `TIME_UNIT` (R9, D27): the physical length of one time unit. OPEN in the spec, and no rule depends on it (log 6). -/
opaque timeUnit : Nat

/-- The single byte of the soft-reset command (30_encoding R64). -/
def softResetByte : Byte := 0x01#8

/-- First byte of the product-ID request (30_encoding R65). -/
def productIdRequestByte : Byte := 0xF9#8

/-- Report id of a product ID response (30_encoding R62, R66). -/
def productIdResponseId : Byte := 0xF8#8

/-- Report id of a command response (30_encoding R62). -/
def commandResponseId : Byte := 0xF1#8

/-- Report id of an advertisement response (30_encoding R61, R62). -/
def advertisementId : Byte := 0x00#8

/-- Report id of a reset complete (30_encoding R62). -/
def resetCompleteId : Byte := 0x01#8

/-- Report id of the rotation vector (30_encoding R62, R68). -/
def rotationVectorId : Byte := 0x05#8

/-- Command byte of a set-feature command (30_encoding R67). -/
def setFeatureByte : Byte := 0xFD#8

/-- The reserved flags byte of a set-feature command (30_encoding R67, D21). -/
def setFeatureFlags : Byte := 0x00#8

/-- Free value (10_state R36, 20_memory R41, log 3): what RX byte `offset` holds when nothing has written it since draw
number `epoch` (reset, or a failed receive). -/
opaque rxDraw (epoch offset : Nat) : Byte

/-- Free value (10_state R36, log 4): what TX byte `offset` holds when nothing has written it since draw number
`epoch`. -/
opaque txDraw (epoch offset : Nat) : Byte

/-- Free value (log 1): the Transport's answer to a `setup` that no listed answer covers, draw number `k`. -/
opaque setupDraw (k : Nat) : StatusAnswer

/-- Free value (log 1): the Transport's answer to a `send` that no listed answer covers, draw number `k`. -/
opaque sendDraw (k : Nat) : StatusAnswer

/-- Free value (log 1): the Transport's answer to a `receive` that no listed answer covers, draw number `k`. -/
opaque receiveDraw (k : Nat) : ReceiveAnswer

end Config

end Sys2Proof
end

