-- ==== Sys2Proof/Syntax.lean ====
section
/-!
DEFINITION. The instructions: one constructor for each row of spec/opcode_table.json. Its 28 rows are 13 host commands
(30_encoding R72 to R74), the 4 frames the core sends and the 11 frames the dispatcher recognises (30_encoding R81).
-/

namespace Sys2Proof

/-- A channel number the core can send on (30_encoding R58): 0 to 5. -/
inductive Channel where
  | command
  | executable
  | hubControl
  | sensorReports
  | wake
  | gyroRotationVector
deriving DecidableEq, Repr

/-- The fields of a received frame's header other than the channel (30_encoding R55): the 14-bit declared length, the
two reserved bits above it, and the sequence byte. -/
structure RxHeader where
  declared : BitVec 14
  reserved : BitVec 2
  sequence : Byte
deriving DecidableEq, Repr

/-- One constructor per row of the opcode table. The frames the core sends carry the sequence byte; the frames it
receives carry their header, so that no bit of a frame is lost. -/
inductive Instr where
  /-- INIT, 42_init R113. -/
  | init
  /-- SOFT_RESET, 44_host_ops R129. -/
  | softReset
  /-- VERIFY_PRODUCT_ID, 42_init R122. -/
  | verifyProductId
  /-- ENABLE_REPORT, 43_enable R125. -/
  | enableReport (id : Byte) (intervalMs : Word)
  /-- ENABLE_ROTATION_VECTOR, 43_enable R126. -/
  | enableRotationVector (intervalMs : Word)
  /-- SEND_FRAME, 44_host_ops R130. -/
  | sendFrame (chan : Channel) (body : List Byte)
  /-- RECEIVE_PACKET, 44_host_ops R131. -/
  | receivePacket
  /-- HANDLE_ONE, 41_dispatch R109. -/
  | handleOne
  /-- EAT_ONE, 44_host_ops R132. -/
  | eatOne
  /-- EAT_ALL, 44_host_ops R133. -/
  | eatAll
  /-- READ_RX, 44_host_ops R134: the offsets 0 to 1023 are the ten-bit numbers. -/
  | readRx (off : BitVec 10)
  /-- READ_SEQ, 44_host_ops R135. -/
  | readSeq (chan : Channel)
  /-- READ_STATUS, 44_host_ops R136. -/
  | readStatus
  /-- SOFT_RESET_FRAME, 30_encoding R64. -/
  | softResetFrame (seq : Byte)
  /-- PRODUCT_ID_REQUEST, 30_encoding R65. -/
  | productIdRequest (seq : Byte)
  /-- SET_FEATURE, 30_encoding R67, 43_enable R124. -/
  | setFeature (seq : Byte) (id : Byte) (us : Word)
  /-- GENERIC_FRAME, 40_codec R85. -/
  | genericFrame (chan : Channel) (seq : Byte) (body : List Byte)
  /-- SENSOR_ROTATION_VECTOR, 41_dispatch R99: `timestamp` is body bytes 0 to 4, which the core never decodes. -/
  | sensorRotationVector (h : RxHeader) (timestamp : BitVec 40) (rest : List Byte)
  /-- SENSOR_OTHER, 41_dispatch R99. -/
  | sensorOther (h : RxHeader) (timestamp : BitVec 40) (id : Byte) (rest : List Byte)
  /-- ADVERTISEMENT, 41_dispatch R100: `tlv` is the stream after the report id. -/
  | advertisement (h : RxHeader) (tlv : List Byte)
  /-- COMMAND_OTHER, 41_dispatch R102. -/
  | commandOther (h : RxHeader) (id : Byte) (rest : List Byte)
  /-- RESET_COMPLETE, 41_dispatch R103. -/
  | resetComplete (h : RxHeader) (rest : List Byte)
  /-- EXECUTABLE_OTHER, 41_dispatch R104. -/
  | executableOther (h : RxHeader) (id : Byte) (rest : List Byte)
  /-- COMMAND_RESPONSE, 41_dispatch R105. -/
  | commandResponse (h : RxHeader) (rest : List Byte)
  /-- PRODUCT_ID_RESPONSE, 41_dispatch R106. -/
  | productIdResponse (h : RxHeader) (rest : List Byte)
  /-- HUBCONTROL_OTHER, 41_dispatch R107. -/
  | hubControlOther (h : RxHeader) (id : Byte) (rest : List Byte)
  /-- IGNORED_CHANNEL, 41_dispatch R97. -/
  | ignoredChannel (h : RxHeader) (chan : Byte) (rest : List Byte)
  /-- NO_REPORT_ID, 41_dispatch R98. -/
  | noReportId (h : RxHeader) (chan : BitVec 2) (rest : List Byte)
deriving DecidableEq, Repr

/-- The host commands (30_encoding R73). -/
def Instr.isCommand : Instr → Bool
  | .init | .softReset | .verifyProductId | .enableReport _ _ | .enableRotationVector _ | .sendFrame _ _
  | .receivePacket | .handleOne | .eatOne | .eatAll | .readRx _ | .readSeq _ | .readStatus => true
  | .softResetFrame _ | .productIdRequest _ | .setFeature _ _ _ | .genericFrame _ _ _
  | .sensorRotationVector _ _ _ | .sensorOther _ _ _ _ | .advertisement _ _ | .commandOther _ _ _
  | .resetComplete _ _ | .executableOther _ _ _ | .commandResponse _ _ | .productIdResponse _ _
  | .hubControlOther _ _ _ | .ignoredChannel _ _ _ | .noReportId _ _ _ => false

/-- The frames the core sends (30_encoding R81, `frame-tx`). -/
def Instr.isSent : Instr → Bool
  | .softResetFrame _ | .productIdRequest _ | .setFeature _ _ _ | .genericFrame _ _ _ => true
  | .init | .softReset | .verifyProductId | .enableReport _ _ | .enableRotationVector _ | .sendFrame _ _
  | .receivePacket | .handleOne | .eatOne | .eatAll | .readRx _ | .readSeq _ | .readStatus
  | .sensorRotationVector _ _ _ | .sensorOther _ _ _ _ | .advertisement _ _ | .commandOther _ _ _
  | .resetComplete _ _ | .executableOther _ _ _ | .commandResponse _ _ | .productIdResponse _ _
  | .hubControlOther _ _ _ | .ignoredChannel _ _ _ | .noReportId _ _ _ => false

/-- The frames the dispatcher recognises (30_encoding R81, `frame-rx`). -/
def Instr.isReceived (i : Instr) : Bool := !i.isCommand && !i.isSent

end Sys2Proof
end

