-- ==== Sys2Proof/WellFormed.lean ====
section
/-!
DEFINITION. Which instructions are well formed: the limits of the opcode table that a constructor's types do not already
say (30_encoding R74, R81, 40_codec R86, R91, 41_dispatch R97 to R107).
-/

namespace Sys2Proof

/-- A stream of tag-length-value elements (30_encoding R61): each is a tag byte, a length byte `n` and `n` value bytes,
and nothing is left over. `fuel` bounds the number of elements; the length of the stream is enough. -/
def tlvStreamFuel : Nat → List Byte → Bool
  | _, [] => true
  | _, [_] => false
  | 0, _ :: _ :: _ => false
  | fuel + 1, _ :: n :: rest => decide (n.toNat ≤ rest.length) && tlvStreamFuel fuel (rest.drop n.toNat)

/-- The byte stream is a sequence of whole tag-length-value elements (30_encoding R61). -/
def tlvStream (bytes : List Byte) : Bool := tlvStreamFuel bytes.length bytes

/-- The body of a set-feature command (30_encoding R67) once its report id and interval are put aside. -/
def isSetFeatureBody : List Byte → Bool
  | [c, _, f, s0, s1, _, _, _, _, b0, b1, b2, b3, c0, c1, c2, c3] =>
    c == Config.setFeatureByte && f == Config.setFeatureFlags && s0 == 0#8 && s1 == 0#8
      && b0 == 0#8 && b1 == 0#8 && b2 == 0#8 && b3 == 0#8
      && c0 == 0#8 && c1 == 0#8 && c2 == 0#8 && c3 == 0#8
  | _ => false

/-- The frame has a row of its own in the table: SOFT_RESET_FRAME, PRODUCT_ID_REQUEST or SET_FEATURE (log 20). -/
def hasSentRow (chan : Channel) (body : List Byte) : Bool :=
  match chan with
  | .executable => body == [Config.softResetByte]
  | .hubControl => body == [Config.productIdRequestByte, 0#8] || isSetFeatureBody body
  | .command | .sensorReports | .wake | .gyroRotationVector => false

/-- The header of a received frame with `n` body bytes: under `LENGTH_CHECK` the declared length is the received length
(40_codec R91), and the frame fits RX (20_memory R40). -/
def RxHeader.fits (check : Bool) (h : RxHeader) (n : Nat) : Bool :=
  (!check || h.declared.toNat == Config.hdr + n) && decide (Config.hdr + n ≤ Config.rxCap)

/-- The limits a row of the opcode table puts on its operands, under a value of `LENGTH_CHECK` (00_scope R9). -/
def Instr.wf (check : Bool) : Instr → Bool
  | .init | .softReset | .verifyProductId | .enableReport _ _ | .enableRotationVector _
  | .receivePacket | .handleOne | .eatOne | .eatAll | .readRx _ | .readSeq _ | .readStatus
  | .softResetFrame _ | .productIdRequest _ | .setFeature _ _ _ => true
  | .sendFrame _ body => decide (body.length < 65536)
  | .genericFrame chan _ body => decide (body.length + Config.hdr ≤ Config.txCap) && !hasSentRow chan body
  | .sensorRotationVector h _ rest => h.fits check (6 + rest.length)
  | .sensorOther h _ id rest => h.fits check (6 + rest.length) && id != Config.rotationVectorId
  | .advertisement h tlv => h.fits check (1 + tlv.length) && tlvStream tlv
  | .commandOther h id rest => h.fits check (1 + rest.length) && id != Config.advertisementId
  | .resetComplete h rest => h.fits check (1 + rest.length)
  | .executableOther h id rest => h.fits check (1 + rest.length) && id != Config.resetCompleteId
  | .commandResponse h rest => h.fits check (1 + rest.length)
  | .productIdResponse h rest => h.fits check (1 + rest.length)
  | .hubControlOther h id rest =>
    h.fits check (1 + rest.length) && id != Config.commandResponseId && id != Config.productIdResponseId
  | .ignoredChannel h chan rest => h.fits check rest.length && decide (3 < chan.toNat)
  | .noReportId h chan rest =>
    h.fits check rest.length && (if chan = 3#2 then decide (rest.length ≤ 5) else rest.isEmpty)

end Sys2Proof
end

