-- ==== Sys2Proof/Decode.lean ====
section
/-!
DEFINITION. The two encoded interfaces of SHTP-CORE (spec 30_encoding): host commands (R72 to R76) and wire frames (R55 to
R70), each decoded on any bytes and rejected by name, then the encoder written from the same tables.
-/

namespace Sys2Proof

/-- Why bytes are no instruction. -/
inductive Reject where
  /-- The host's bytes are not one command word and the operand bytes its opcode takes (30_encoding R74). -/
  | transfer
  /-- A command word that acceptance refuses (44_host_ops R127). -/
  | badCommand
  /-- Fewer bytes than a frame header (40_codec R92). -/
  | shortFrame
  /-- The declared length is not the received length (40_codec R91). -/
  | lengthMismatch
  /-- More bytes than the buffer holds (20_memory R37). -/
  | tooLong
  /-- The tag-length-value stream of an advertisement does not end at the body's end (41_dispatch R101). -/
  | malformedAdvertisement
  /-- The header of a frame to be sent is not one that `build` writes (30_encoding R57). -/
  | notBuilt
deriving DecidableEq, Repr

/-! ### Bytes and fields -/

/-- `le32` (00_scope R11). -/
def le32 (v : Word) : List Byte :=
  [v.extractLsb' 0 8, v.extractLsb' 8 8, v.extractLsb' 16 8, v.extractLsb' 24 8]

/-- The `u32` whose `le32` is the four bytes (00_scope R11). -/
def ofLe32 (b0 b1 b2 b3 : Byte) : Word := b3 ++ b2 ++ b1 ++ b0

/-- `le16` (00_scope R11). -/
def le16 (v : Half) : List Byte := [v.extractLsb' 0 8, v.extractLsb' 8 8]

/-- The `u16` whose `le16` is the two bytes (00_scope R11). -/
def ofLe16 (b0 b1 : Byte) : Half := b1 ++ b0

/-- The five timestamp bytes of a SensorReports body (30_encoding R60), first byte first. -/
def timestampBytes (t : BitVec 40) : List Byte :=
  [t.extractLsb' 0 8, t.extractLsb' 8 8, t.extractLsb' 16 8, t.extractLsb' 24 8, t.extractLsb' 32 8]

/-- The timestamp whose bytes are the five given. -/
def timestampOf (b0 b1 b2 b3 b4 : Byte) : BitVec 40 := b4 ++ b3 ++ b2 ++ b1 ++ b0

/-- The channel byte of a frame (30_encoding R58). -/
def Channel.toByte : Channel → Byte
  | .command => 0#8
  | .executable => 1#8
  | .hubControl => 2#8
  | .sensorReports => 3#8
  | .wake => 4#8
  | .gyroRotationVector => 5#8

/-- The channel a byte names, where it names one of the six (30_encoding R58). -/
def Channel.ofByte (b : Byte) : Option Channel :=
  match b.toNat with
  | 0 => some .command
  | 1 => some .executable
  | 2 => some .hubControl
  | 3 => some .sensorReports
  | 4 => some .wake
  | 5 => some .gyroRotationVector
  | _ => none

/-! ### Bodies and frames the core builds -/

/-- The soft-reset command's body (30_encoding R64). -/
def softResetBody : List Byte := [Config.softResetByte]

/-- The product-ID request's body (30_encoding R65). -/
def productIdRequestBody : List Byte := [Config.productIdRequestByte, 0#8]

/-- `set_feature_body(id, us)` (43_enable R124, 30_encoding R67). -/
def setFeatureBody (id : Byte) (us : Word) : List Byte :=
  [Config.setFeatureByte, id, Config.setFeatureFlags, 0#8, 0#8] ++ le32 us ++ List.replicate 4 0#8
    ++ List.replicate 4 0#8

/-- The header of a built frame of total length `len` (30_encoding R57): `[L[7:0], L[15:8], channel, s]`. -/
def builtHeader (len : Nat) (chan : Channel) (seq : Byte) : List Byte :=
  [BitVec.ofNat 8 len, BitVec.ofNat 8 (len / 256), chan.toByte, seq]

/-- The frame `build` writes for a body (30_encoding R57, 40_codec R85). -/
def builtFrame (chan : Channel) (seq : Byte) (body : List Byte) : List Byte :=
  builtHeader (Config.hdr + body.length) chan seq ++ body

/-! ### Host commands -/

/-- How many operand bytes follow the command word (30_encoding R74), for every opcode, a refused word's too
(44_host_ops R127). -/
def operandCount (op : Byte) (a16 : Half) : Nat :=
  match op.toNat with
  | 4 => 4
  | 5 => 4
  | 6 => a16.toNat
  | _ => 0

/-- The `interval_ms` operand (30_encoding R74). -/
def intervalOf : List Byte → Word
  | [b0, b1, b2, b3] => ofLe32 b0 b1 b2 b3
  | _ => 0#32

/-- The acceptance checks (44_host_ops R127) on the fields of a command word and its operand bytes. -/
def acceptFields (op a8 : Byte) (a16 : Half) (operands : List Byte) : Except Reject Instr :=
  let plain (i : Instr) : Except Reject Instr := if a8 = 0#8 ∧ a16 = 0#16 then .ok i else .error .badCommand
  match op.toNat with
  | 1 => plain .init
  | 2 => plain .softReset
  | 3 => plain .verifyProductId
  | 4 => if a16 = 0#16 then .ok (.enableReport a8 (intervalOf operands)) else .error .badCommand
  | 5 => plain (.enableRotationVector (intervalOf operands))
  | 6 =>
    match Channel.ofByte a8 with
    | some c => .ok (.sendFrame c operands)
    | none => .error .badCommand
  | 7 => plain .receivePacket
  | 8 => plain .handleOne
  | 9 => plain .eatOne
  | 10 => plain .eatAll
  | 11 => if a8 = 0#8 ∧ a16.toNat < Config.rxCap then .ok (.readRx (a16.setWidth 10)) else .error .badCommand
  | 12 =>
    match Channel.ofByte a8 with
    | some c => if a16 = 0#16 then .ok (.readSeq c) else .error .badCommand
    | none => .error .badCommand
  | 13 => plain .readStatus
  | _ => .error .badCommand

/-- The host presents a command word and exactly the operand bytes its opcode takes (30_encoding R74). -/
def isTransfer : List Byte → Bool
  | op :: _ :: lo :: hi :: operands => operands.length == operandCount op (ofLe16 lo hi)
  | _ => false

/-- One host command (30_encoding R72, R74): the command word, little-endian, then exactly its operand bytes. -/
def decodeCommand : List Byte → Except Reject Instr
  | op :: a8 :: lo :: hi :: operands =>
    let a16 := ofLe16 lo hi
    if operands.length = operandCount op a16 then acceptFields op a8 a16 operands else .error .transfer
  | _ => .error .transfer

/-- The word, little-endian, and the operand bytes of a host command (30_encoding R72). -/
def commandBytes (op a8 : Byte) (a16 : Half) (operands : List Byte) : List Byte :=
  op :: a8 :: le16 a16 ++ operands

/-! ### Received frames -/

/-- The header of a received frame (30_encoding R55, R56): byte 1 bits 5:0 over byte 0 are the declared length, byte 1
bits 7:6 are reserved. -/
def headerOf (b0 b1 s : Byte) : RxHeader :=
  { declared := b1.extractLsb' 0 6 ++ b0, reserved := b1.extractLsb' 6 2, sequence := s }

/-- The row that a received frame falls under, by its channel byte and then its report id (30_encoding R59, R62). -/
def receivedRow (h : RxHeader) (chan : Byte) (body : List Byte) : Instr :=
  match chan.toNat with
  | 0 =>
    match body with
    | [] => .noReportId h 0#2 []
    | id :: rest => if id = Config.advertisementId then .advertisement h rest else .commandOther h id rest
  | 1 =>
    match body with
    | [] => .noReportId h 1#2 []
    | id :: rest => if id = Config.resetCompleteId then .resetComplete h rest else .executableOther h id rest
  | 2 =>
    match body with
    | [] => .noReportId h 2#2 []
    | id :: rest =>
      if id = Config.commandResponseId then .commandResponse h rest
      else if id = Config.productIdResponseId then .productIdResponse h rest
      else .hubControlOther h id rest
  | 3 =>
    match body with
    | t0 :: t1 :: t2 :: t3 :: t4 :: id :: rest =>
      if id = Config.rotationVectorId then .sensorRotationVector h (timestampOf t0 t1 t2 t3 t4) rest
      else .sensorOther h (timestampOf t0 t1 t2 t3 t4) id rest
    | short => .noReportId h 3#2 short
  | _ => .ignoredChannel h chan body

/-- One received frame (30_encoding R55), under a value of `LENGTH_CHECK`: its row, or why it is none. -/
def decodeReceived (check : Bool) : List Byte → Except Reject Instr
  | b0 :: b1 :: chan :: s :: body =>
    let h := headerOf b0 b1 s
    let i := receivedRow h chan body
    if i.wf check then .ok i
    else if Config.rxCap < Config.hdr + body.length then .error .tooLong
    else if check ∧ h.declared.toNat ≠ Config.hdr + body.length then .error .lengthMismatch
    else .error .malformedAdvertisement
  | _ => .error .shortFrame

/-- A received frame: the header, the channel byte and the body (30_encoding R55). -/
def receivedFrame (h : RxHeader) (chan : Byte) (body : List Byte) : List Byte :=
  h.declared.extractLsb' 0 8 :: (h.reserved ++ h.declared.extractLsb' 8 6 : BitVec 8) :: chan :: h.sequence :: body

/-! ### Sent frames -/

/-- The row that a frame of the core falls under (30_encoding R64, R65, R67, 40_codec R85; log 20). -/
def sentRow (chan : Channel) (seq : Byte) (body : List Byte) : Instr :=
  if hasSentRow chan body then
    match body with
    | [_] => .softResetFrame seq
    | [_, _] => .productIdRequest seq
    | _ :: id :: _ :: _ :: _ :: b0 :: b1 :: b2 :: b3 :: _ => .setFeature seq id (ofLe32 b0 b1 b2 b3)
    | other => .genericFrame chan seq other
  else .genericFrame chan seq body

/-- One frame the core sends (30_encoding R57): its row, or why `build` writes no such frame. -/
def decodeSent : List Byte → Except Reject Instr
  | b0 :: b1 :: c :: seq :: body =>
    match Channel.ofByte c with
    | some chan =>
      if Config.txCap < Config.hdr + body.length then .error .tooLong
      else if builtHeader (Config.hdr + body.length) chan seq = [b0, b1, c, seq] then .ok (sentRow chan seq body)
      else .error .notBuilt
    | none => .error .notBuilt
  | _ => .error .shortFrame

/-! ### The encoder -/

/-- The bytes of an instruction: a host command as the host presents it (30_encoding R72 to R74), a frame as it stands on
the wire (30_encoding R55). -/
def encode : Instr → List Byte
  | .init => commandBytes 0x01#8 0#8 0#16 []
  | .softReset => commandBytes 0x02#8 0#8 0#16 []
  | .verifyProductId => commandBytes 0x03#8 0#8 0#16 []
  | .enableReport id ms => commandBytes 0x04#8 id 0#16 (le32 ms)
  | .enableRotationVector ms => commandBytes 0x05#8 0#8 0#16 (le32 ms)
  | .sendFrame chan body => commandBytes 0x06#8 chan.toByte (BitVec.ofNat 16 body.length) body
  | .receivePacket => commandBytes 0x07#8 0#8 0#16 []
  | .handleOne => commandBytes 0x08#8 0#8 0#16 []
  | .eatOne => commandBytes 0x09#8 0#8 0#16 []
  | .eatAll => commandBytes 0x0A#8 0#8 0#16 []
  | .readRx off => commandBytes 0x0B#8 0#8 (off.setWidth 16) []
  | .readSeq chan => commandBytes 0x0C#8 chan.toByte 0#16 []
  | .readStatus => commandBytes 0x0D#8 0#8 0#16 []
  | .softResetFrame seq => builtFrame .executable seq softResetBody
  | .productIdRequest seq => builtFrame .hubControl seq productIdRequestBody
  | .setFeature seq id us => builtFrame .hubControl seq (setFeatureBody id us)
  | .genericFrame chan seq body => builtFrame chan seq body
  | .sensorRotationVector h t rest => receivedFrame h 3#8 (timestampBytes t ++ Config.rotationVectorId :: rest)
  | .sensorOther h t id rest => receivedFrame h 3#8 (timestampBytes t ++ id :: rest)
  | .advertisement h tlv => receivedFrame h 0#8 (Config.advertisementId :: tlv)
  | .commandOther h id rest => receivedFrame h 0#8 (id :: rest)
  | .resetComplete h rest => receivedFrame h 1#8 (Config.resetCompleteId :: rest)
  | .executableOther h id rest => receivedFrame h 1#8 (id :: rest)
  | .commandResponse h rest => receivedFrame h 2#8 (Config.commandResponseId :: rest)
  | .productIdResponse h rest => receivedFrame h 2#8 (Config.productIdResponseId :: rest)
  | .hubControlOther h id rest => receivedFrame h 2#8 (id :: rest)
  | .ignoredChannel h chan rest => receivedFrame h chan rest
  | .noReportId h chan rest => receivedFrame h (chan.setWidth 8) rest

/-! ### A word of the opcode table -/

/-- The lowest `n` bytes of a word, the least significant first. -/
def lowBytes (n w : Nat) : List Byte := (List.range n).map fun k => BitVec.ofNat 8 (w >>> (8 * k))

/-- The bytes a host presents for a command word alone: the word, and operand bytes of zeros (30_encoding R74). -/
def wordTransfer (w : Nat) : List Byte :=
  lowBytes 4 w ++ List.replicate (operandCount (BitVec.ofNat 8 w) (BitVec.ofNat 16 (w >>> 16))) 0#8

/-- Which interface a word of the table belongs to (log 13): up to 32 bits a host command; beyond, a wire frame of
that many bits, read as one the core sends if it has a row of its own there, else as one the core receives. -/
def tableFrame (nbits w : Nat) : Option Instr :=
  let bytes := lowBytes (nbits / 8) w
  match decodeSent bytes, decodeReceived Config.lengthCheck bytes with
  | .ok (.softResetFrame seq), _ => some (.softResetFrame seq)
  | .ok (.productIdRequest seq), _ => some (.productIdRequest seq)
  | .ok (.setFeature seq id us), _ => some (.setFeature seq id us)
  | _, .ok i => some i
  | .ok i, _ => some i
  | _, _ => none

/-- The instruction the decoder reads from an instruction whose bits are `w`, numbered as the opcode table numbers
them; operand bytes that the table gives no bits are zeros (log 13). -/
def decodeTableWord (nbits w : Nat) : Option Instr :=
  if nbits ≤ 32 then
    match decodeCommand (wordTransfer w) with
    | .ok i => some i
    | .error _ => none
  else tableFrame nbits w

end Sys2Proof
end

