-- ==== Sys2Proof/Machine/State.lean ====
section
/-!
DEFINITION. The state of SHTP-CORE (spec 10_state R16) as plain data, the state after a hardware reset (R36), and the
reasons a step can stop. Beside the spec's state stand three things it only implies (the length of the frame in TX, the
response of the latest command, what another agent has handed the core and the core has not yet acted on), the parameter
`LENGTH_CHECK`, and the model's own fields for the other agents and the free values (log 1, 3, 4, 7, 8, 22).
-/

namespace Sys2Proof.Machine

/-- The control phases (10_state R29), in the order of their codes 0 to 19. -/
inductive Phase where
  | idle
  | initSetup
  | initResetTx
  | initWaitReset
  | initDiscardRx
  | initWaitSettle
  | initDrainRx
  | initDrainWait
  | initVerifyTx
  | initVerifyRx
  | verifyTx
  | verifyRx
  | softResetTx
  | enableTx
  | sendTx
  | recvRx
  | handleRx
  | eatRx
  | eatAllRx
  | eatAllWait
deriving DecidableEq, Repr

/-- Condition codes (30_encoding R78): 0 to 6 in this order; code 7 is never produced. -/
inductive Cond where
  | ok
  | transportError
  | invalidChipIdentity
  | invalidFirmwareVersion
  | corruptFrame
  | oversizedBody
  | badCommand
deriving DecidableEq, Repr

/-- Route codes (30_encoding R79): 0 to 11 in this order; codes 12 to 15 are never produced. -/
inductive Route where
  | none
  | sensorRotationVector
  | sensorOther
  | advertisement
  | commandOther
  | resetComplete
  | executableOther
  | commandResponse
  | productIdResponse
  | hubControlOther
  | ignoredChannel
  | noReportId
deriving DecidableEq, Repr

/-- The `info` of a response (30_encoding R77): absent, the Transport's error, or the identity byte. -/
inductive Info where
  | absent
  | transport (e : TErr)
  | identity (b : Byte)
deriving DecidableEq, Repr

/-- The response to a host command (30_encoding R77). -/
structure Response where
  cond : Cond
  value : Word
  route : Route
  info : Info
deriving DecidableEq, Repr

/-- The command context (10_state R30). -/
structure Ctx where
  op : Byte
  a8 : Byte
  a16 : Half
  intervalMs : Word
  body : List Byte
  n : Word
deriving DecidableEq, Repr

/-- The six sequence counters `seq[0..5]` (10_state R19, R21), one field per channel. -/
structure SeqCounters where
  command : Byte
  executable : Byte
  hubControl : Byte
  sensorReports : Byte
  wake : Byte
  gyroRotationVector : Byte
deriving DecidableEq, Repr

/-- A buffer (20_memory R37): the bytes written since draw number `epoch`, at strictly rising offsets. An offset that is
not listed holds no written byte; what a read of it gives is the free value of that draw (log 3, 4, 18). -/
structure Buffer where
  cells : List Host.Cell
  epoch : Nat
deriving DecidableEq, Repr

/-- What another agent's step has handed the core, for the core's own next step (00_scope R6, R12; log 22): the command
that the Host presented, or the answer to the core's request. -/
inductive Event where
  /-- The Host presented a command word and its operand bytes (30_encoding R71). -/
  | presented (bytes : List Byte)
  /-- The Transport answered `Ok` to a `setup` or a `send` (60_exceptions R150). -/
  | answeredOk
  /-- The Transport answered `Ok(r)` to a `receive`, having written `rx[0..r)` (20_memory R40). -/
  | received (r : Nat)
  /-- The Transport answered `Err(e)` to a `setup`, a `send` or a `receive` (60_exceptions R150). -/
  | answeredErr (e : TErr)
  /-- The Delay provider completed a `wait` (70_reset R172). -/
  | waited
deriving DecidableEq, Repr

/-- What the Host (or, for the reset, whoever resets the block) does next while the core is idle (30_encoding R71,
70_reset R155, R156; log 8). -/
inductive HostEvent where
  | present (bytes : List Byte)
  | hardwareReset
deriving DecidableEq, Repr

/-- The Transport's next answers to each kind of request, oldest first, and how many answers were drawn free after the
lists ran out (log 1). -/
structure Transport where
  setups : List StatusAnswer
  sends : List StatusAnswer
  receives : List ReceiveAnswer
  asked : Nat
deriving DecidableEq, Repr

/-- The state of the machine. INVENTORY.md, '## State', gives each field's rule and reset value. -/
structure State where
  seq : SeqCounters
  rc : Bool
  piv : Bool
  rx : Buffer
  tx : Buffer
  ctl : Phase
  ctx : Ctx
  lastCond : Cond
  lastRoute : Route
  lastRxLen : BitVec 11
  txLen : Nat
  response : Option Response
  pending : Option Event
  lengthCheck : Bool
  host : List HostEvent
  transport : Transport
deriving DecidableEq, Repr

/-- Why a step stops. Each is an event to which 93_implementation_defined section 3 gives "no move" ("stuck"): it cannot
happen. All are safe: the model stops where the spec has no run. -/
inductive Fault where
  /-- The core is to run a host command while `ctl` is not IDLE (30_encoding R71): raised by `accept` and
  `refuseCommand`. Safe (log 10). -/
  | commandWhileBusy
  /-- The host presents other bytes than a word and its operand bytes (30_encoding R74): raised by `hostStep`, and by
  `fetchCommand` for such bytes in a state that no run reaches. Safe (log 9). -/
  | commandTransfer
  /-- The Transport answers a receive with more than 1024 bytes (20_memory R40): raised by `transportStep`, and by
  `deliver` for such a length in a state that no run reaches. Safe (log 11). -/
  | receiveOverrun
  /-- The core is to act on a frame or a failure of a receive that is not the answer to an outstanding receive
  (60_exceptions R150): raised by `deliver` and `failReceive`. Safe (log 11). -/
  | noReceiveOutstanding
  /-- The core is to act on a frame as taken by the Transport that is not the answered outstanding send (60_exceptions
  R150): raised by `transmit`. Safe (log 12). -/
  | noSendOutstanding
  /-- The core is to act on the answer to a setup, a send or a wait that is not outstanding (60_exceptions R150): raised
  by `fetchAnswered` and `fetch`. Safe (log 12). -/
  | noRequestOutstanding
deriving DecidableEq, Repr

/-- Why an instruction is refused. -/
inductive Refusal where
  /-- An instruction without a meaning yet: raised by `exec`'s arms only. Safe. -/
  | notModelled (mnemonic : String)
deriving DecidableEq, Repr

/-- The canonical form of a buffer's cells: offsets strictly rising and below the capacity `cap`. -/
def Buffer.wf (cap : Nat) (b : Buffer) : Bool :=
  b.cells.Pairwise (fun c d => c.1 < d.1) && b.cells.all fun c => decide (c.1 < cap)

/-- Both buffers are in canonical form, within their capacities (20_memory R37). -/
def Memory.wf (s : State) : Bool := s.rx.wf Config.rxCap && s.tx.wf Config.txCap

/-- A buffer nothing has written since draw number `epoch`. -/
def Buffer.unwritten (epoch : Nat) : Buffer := { cells := [], epoch := epoch }

/-- All six counters at 0 (10_state R36). -/
def SeqCounters.zero : SeqCounters :=
  { command := 0#8, executable := 0#8, hubControl := 0#8, sensorReports := 0#8, wake := 0#8,
    gyroRotationVector := 0#8 }

/-- The context at reset: not observable (10_state R36); DESIGN CHOICE zeros (log 14). -/
def Ctx.zero : Ctx := { op := 0#8, a8 := 0#8, a16 := 0#16, intervalMs := 0#32, body := [], n := 0#32 }

/-- The machine right after a hardware reset (10_state R36, 70_reset R155), with nothing presented by the Host and no
answer of the Transport listed. -/
def State.reset : State where
  seq := SeqCounters.zero
  rc := false
  piv := false
  rx := Buffer.unwritten 0
  tx := Buffer.unwritten 0
  ctl := .idle
  ctx := Ctx.zero
  lastCond := .ok
  lastRoute := .none
  lastRxLen := 0#11
  txLen := 0
  response := none
  pending := none
  lengthCheck := Config.lengthCheck
  host := []
  transport := { setups := [], sends := [], receives := [], asked := 0 }

end Sys2Proof.Machine
end

