-- ==== Sys2Proof/Machine/Ops.lean ====
section
/-!
DEFINITION. The named operations over the state: codes and phases, the register file of sequence counters, the two
buffers, the requests to the collaborators and their answers, and how a command is accepted and ends. `raise`
(60_exceptions R144) is the one way a condition ends a command.
-/

namespace Sys2Proof.Machine

/-- The outcome of a step or of an instruction. -/
abbrev Out := Host.Outcome State Fault Refusal

/-! ### Codes -/

/-- The 5-bit code of a phase (10_state R29). -/
def Phase.code : Phase → BitVec 5
  | .idle => 0#5
  | .initSetup => 1#5
  | .initResetTx => 2#5
  | .initWaitReset => 3#5
  | .initDiscardRx => 4#5
  | .initWaitSettle => 5#5
  | .initDrainRx => 6#5
  | .initDrainWait => 7#5
  | .initVerifyTx => 8#5
  | .initVerifyRx => 9#5
  | .verifyTx => 10#5
  | .verifyRx => 11#5
  | .softResetTx => 12#5
  | .enableTx => 13#5
  | .sendTx => 14#5
  | .recvRx => 15#5
  | .handleRx => 16#5
  | .eatRx => 17#5
  | .eatAllRx => 18#5
  | .eatAllWait => 19#5

/-- The 3-bit code of a condition (30_encoding R78). -/
def Cond.code : Cond → BitVec 3
  | .ok => 0#3
  | .transportError => 1#3
  | .invalidChipIdentity => 2#3
  | .invalidFirmwareVersion => 3#3
  | .corruptFrame => 4#3
  | .oversizedBody => 5#3
  | .badCommand => 6#3

/-- The 4-bit code of a route (30_encoding R79). -/
def Route.code : Route → BitVec 4
  | .none => 0#4
  | .sensorRotationVector => 1#4
  | .sensorOther => 2#4
  | .advertisement => 3#4
  | .commandOther => 4#4
  | .resetComplete => 5#4
  | .executableOther => 6#4
  | .commandResponse => 7#4
  | .productIdResponse => 8#4
  | .hubControlOther => 9#4
  | .ignoredChannel => 10#4
  | .noReportId => 11#4

/-- Whose move the core waits for (10_state R29, "held on"). -/
inductive HeldOn where
  | host
  | setup
  | send
  | receive
  | wait (units : Nat)
deriving DecidableEq, Repr

/-- The "held on" column of 10_state R29; the counts are those of 70_reset R172. -/
def Phase.heldOn : Phase → HeldOn
  | .idle => .host
  | .initSetup => .setup
  | .initResetTx | .initVerifyTx | .verifyTx | .softResetTx | .enableTx | .sendTx => .send
  | .initDiscardRx | .initDrainRx | .initVerifyRx | .verifyRx | .recvRx | .handleRx | .eatRx | .eatAllRx => .receive
  | .initWaitReset => .wait Config.dReset
  | .initWaitSettle => .wait Config.dSettle
  | .initDrainWait | .eatAllWait => .wait Config.dPoll

/-! ### Writing one field -/

/-- `s` with other sequence counters. -/
def State.setSeq (s : State) (v : SeqCounters) : State := { s with seq := v }

/-- `s` with `RC` at `v`. -/
def State.setRc (s : State) (v : Bool) : State := { s with rc := v }

/-- `s` with `PIV` at `v`. -/
def State.setPiv (s : State) (v : Bool) : State := { s with piv := v }

/-- `s` with another receive buffer. -/
def State.setRx (s : State) (v : Buffer) : State := { s with rx := v }

/-- `s` with another send buffer. -/
def State.setTx (s : State) (v : Buffer) : State := { s with tx := v }

/-- `ctl <- v` (00_scope R12). -/
def State.setCtl (s : State) (v : Phase) : State := { s with ctl := v }

/-- `s` with another command context. -/
def State.setCtx (s : State) (v : Ctx) : State := { s with ctx := v }

/-- `LAST_COND <- v`. -/
def State.setLastCond (s : State) (v : Cond) : State := { s with lastCond := v }

/-- `LAST_ROUTE <- v`. -/
def State.setLastRoute (s : State) (v : Route) : State := { s with lastRoute := v }

/-- `LAST_RX_LEN <- v`. -/
def State.setLastRxLen (s : State) (v : BitVec 11) : State := { s with lastRxLen := v }

/-- `s` with another length of the frame in TX. -/
def State.setTxLen (s : State) (v : Nat) : State := { s with txLen := v }

/-- `s` with another response at the host's port. -/
def State.setResponse (s : State) (v : Option Response) : State := { s with response := v }

/-- `s` with another event handed to the core. -/
def State.setPending (s : State) (v : Option Event) : State := { s with pending := v }

/-- `s` with another value of `LENGTH_CHECK`. -/
def State.setLengthCheck (s : State) (v : Bool) : State := { s with lengthCheck := v }

/-- `s` with other things for the Host to do. -/
def State.setHost (s : State) (v : List HostEvent) : State := { s with host := v }

/-- `s` with other answers of the Transport to come. -/
def State.setTransport (s : State) (v : Transport) : State := { s with transport := v }

/-! ### The sequence counters -/

/-- `seq[c]` (00_scope R12). -/
def SeqCounters.get (q : SeqCounters) : Channel → Byte
  | .command => q.command
  | .executable => q.executable
  | .hubControl => q.hubControl
  | .sensorReports => q.sensorReports
  | .wake => q.wake
  | .gyroRotationVector => q.gyroRotationVector

/-- `seq[c] <- v` (00_scope R12). -/
def SeqCounters.set (q : SeqCounters) (c : Channel) (v : Byte) : SeqCounters :=
  match c with
  | .command => { q with command := v }
  | .executable => { q with executable := v }
  | .hubControl => { q with hubControl := v }
  | .sensorReports => { q with sensorReports := v }
  | .wake => { q with wake := v }
  | .gyroRotationVector => { q with gyroRotationVector := v }

/-! ### The buffers -/

/-- The byte listed at an offset, if any. -/
def cellAt : List Host.Cell → Nat → Option Byte
  | [], _ => none
  | (a, v) :: rest, i => if a = i then some v else cellAt rest i

/-- The cells of a byte sequence that begins at an offset. -/
def blockCells : Nat → List Byte → List Host.Cell
  | _, [] => []
  | base, v :: rest => (base, v) :: blockCells (base + 1) rest

/-- The byte written at an offset since the buffer's latest draw, if any. -/
def Buffer.written (b : Buffer) (i : Nat) : Option Byte := cellAt b.cells i

/-- `MemWrite(_, base, n, bytes)` (00_scope R12): the bytes stand at `base` and after it, every other offset keeps what
it held. The callers keep to the capacity (20_memory R48, log 19). -/
def Buffer.write (b : Buffer) (base : Nat) (bytes : List Byte) : Buffer :=
  { b with
    cells := b.cells.filter (fun c => decide (c.1 < base)) ++ blockCells base bytes
      ++ b.cells.filter (fun c => decide (base + bytes.length ≤ c.1)) }

/-- Every byte becomes unspecified (10_state R36, 20_memory R41): nothing is written any more, under a new draw. -/
def Buffer.redraw (b : Buffer) : Buffer := Buffer.unwritten (b.epoch + 1)

/-- `rx[i]` (00_scope R12): the written byte, or the free value of the buffer's draw (10_state R36). -/
def State.rxByte (s : State) (i : Nat) : Byte := (s.rx.written i).getD (Config.rxDraw s.rx.epoch i)

/-- `tx[i]`: the written byte, or the free value of the buffer's draw (10_state R36). -/
def State.txByte (s : State) (i : Nat) : Byte := (s.tx.written i).getD (Config.txDraw s.tx.epoch i)

/-- `MemRead(RX, 0, n)` (00_scope R12). -/
def State.rxBytes (s : State) (n : Nat) : List Byte := (List.range n).map s.rxByte

/-- `tx[0..n)` (20_memory R42). -/
def State.txBytes (s : State) (n : Nat) : List Byte := (List.range n).map s.txByte

/-- `MemWrite(TX, base, n, bytes)`. -/
def State.writeTx (s : State) (base : Nat) (bytes : List Byte) : State := s.setTx (s.tx.write base bytes)

/-! ### Requests to the collaborators and their answers -/

/-- A request of the core (60_exceptions R150): `setup` hands over the Delay provider (42_init R114), `send` the frame,
`wait` a number of time units. -/
inductive Request where
  | setup (withDelayProvider : Bool)
  | send (frame : List Byte)
  | receive
  | wait (units : Nat)
deriving DecidableEq, Repr

/-- The event handed to the core is taken: the core acts on it in this step (00_scope R6, log 22). -/
def State.taken (s : State) : State := s.setPending none

/-- The request outstanding in a state, if any (00_scope R7: at most one; 10_state R29): that of the phase, until its
answer is there. -/
def State.request (s : State) : Option Request :=
  if s.pending.isSome then none
  else
    match s.ctl.heldOn with
    | .host => none
    | .setup => some (.setup true)
    | .send => some (.send (s.txBytes s.txLen))
    | .receive => some .receive
    | .wait units => some (.wait units)

/-- The Transport's answer to a `setup`: the next one listed, else a free one (log 1). -/
def State.takeSetup (s : State) : StatusAnswer × State :=
  match s.transport.setups with
  | a :: rest => (a, s.setTransport { s.transport with setups := rest })
  | [] => (Config.setupDraw s.transport.asked, s.setTransport { s.transport with asked := s.transport.asked + 1 })

/-- The Transport's answer to a `send`: the next one listed, else a free one (log 1). -/
def State.takeSend (s : State) : StatusAnswer × State :=
  match s.transport.sends with
  | a :: rest => (a, s.setTransport { s.transport with sends := rest })
  | [] => (Config.sendDraw s.transport.asked, s.setTransport { s.transport with asked := s.transport.asked + 1 })

/-- A drawn answer to a `receive`, within the contract `r ≤ 1024` (20_memory R40). -/
def clipped : ReceiveAnswer → ReceiveAnswer
  | .silent => .silent
  | .ok bytes => .ok (bytes.take Config.rxCap)
  | .err e => .err e

/-- The Transport's answer to a `receive`: the next one listed, else a free one within the contract (log 1). -/
def State.takeReceive (s : State) : ReceiveAnswer × State :=
  match s.transport.receives with
  | a :: rest => (a, s.setTransport { s.transport with receives := rest })
  | [] =>
    (clipped (Config.receiveDraw s.transport.asked),
      s.setTransport { s.transport with asked := s.transport.asked + 1 })

/-! ### Accepting a command and ending it -/

/-- What `accept` writes (44_host_ops R127): `ctx`, but for `ctx.n`, which is not among the fields it gives; and the earlier
response is gone from the port (log 14, 15). The presented command is taken (log 22). -/
def accepted (op a8 : Byte) (a16 : Half) (intervalMs : Word) (body : List Byte) (s : State) : State :=
  (s.taken.setCtx { op := op, a8 := a8, a16 := a16, intervalMs := intervalMs, body := body, n := s.ctx.n }).setResponse
    none

/-- `accept` (44_host_ops R127) of a command that passed the checks, and then the command's own rule. A command has no
move while another is in progress (30_encoding R71, log 10). -/
def accept (op a8 : Byte) (a16 : Half) (intervalMs : Word) (body : List Byte) (rule : State → State) (s : State) : Out :=
  if s.ctl = .idle then .next (rule (accepted op a8 a16 intervalMs body s)) else .fault .commandWhileBusy

/-- `respond(cond, value)` with the route and info of the response (60_exceptions R143, 30_encoding R77). -/
def respond (cond : Cond) (value : Word) (route : Route) (info : Info) (s : State) : State :=
  (s.setResponse (some { cond := cond, value := value, route := route, info := info })).setCtl .idle

/-- `raise Cond(info)` (60_exceptions R144): the shared way a condition ends a command. -/
def raise (cond : Cond) (info : Info) (s : State) : State :=
  respond cond 0#32 .none info (s.setLastCond cond)

/-- The end of a command that succeeds: `LAST_COND <- OK`, then `respond(OK, value)`. -/
def complete (value : Word) (s : State) : State :=
  respond .ok value .none .absent (s.setLastCond .ok)

/-- BadCommand (44_host_ops R128): the answer to a command word that acceptance refuses. -/
def badCommand (s : State) : State := raise .badCommand .absent s

/-- Acceptance of a command word that its checks refuse (44_host_ops R127, R128): as `accept`, only while idle. -/
def refuseCommand (s : State) : Out :=
  if s.ctl = .idle then .next (badCommand s.taken) else .fault .commandWhileBusy

/-- The hardware reset (10_state R36, 70_reset R155): every register at its reset value, both buffers drawn anew. The
parameter and what the Host and the Transport will do are not the block's state and stay (10_state R17, log 7, 24). -/
def hardwareReset (s : State) : State :=
  { State.reset with
    rx := s.rx.redraw
    tx := s.tx.redraw
    lengthCheck := s.lengthCheck
    host := s.host
    transport := s.transport }

end Sys2Proof.Machine
end

