-- ==== Sys2Proof/Machine/Operands.lean ====
section
/-!
DEFINITION. The operands of the host commands (spec 30_encoding R72 to R74): how a channel, an offset, an interval and a
body stand in the command word and in the context, and the interval conversion (43_enable R123).
-/

namespace Sys2Proof.Machine

/-- The `a8` field that names a channel (30_encoding R72). -/
def channelField (c : Channel) : Byte := c.toByte

/-- The `a16` field that gives a body's length (30_encoding R72). -/
def lengthField (body : List Byte) : Half := BitVec.ofNat 16 body.length

/-- The `a16` field that gives an RX offset (30_encoding R72). -/
def offsetField (off : BitVec 10) : Half := off.setWidth 16

/-- The RX offset an operand names (44_host_ops R134). -/
def offsetOf (off : BitVec 10) : Nat := off.toNat

/-- `us = trunc_32(interval_ms * 1000)` (43_enable R123): the exact product, narrowed without a check. -/
def intervalUs (intervalMs : Word) : Word := BitVec.ofNat 32 (intervalMs.toNat * 1000)

/-- `zext_32` of a byte (00_scope R10), for a response value. -/
def byteValue (b : Byte) : Word := b.setWidth 32

/-- A count or length as a response value (30_encoding R77). -/
def countValue (n : Nat) : Word := BitVec.ofNat 32 n

/-- `accept` of a command whose word holds nothing but its opcode. -/
def acceptPlain (op : Byte) (rule : State → State) (s : State) : Out := accept op 0#8 0#16 0#32 [] rule s

end Sys2Proof.Machine
end

