-- ==== Sys2Proof/Machine/Flags.lean ====
section
/-!
DEFINITION. The two flags (spec 10_state R22 to R24, R35) and the STATUS word that shows them (R34).
-/

namespace Sys2Proof.Machine

/-- `RC <- 1` (41_dispatch R103): nothing sets it back but a hardware reset (10_state R24). -/
def setResetComplete (s : State) : State := s.setRc true

/-- `PIV <- 1` (41_dispatch R106, 42_init R112): nothing sets it back but a hardware reset (10_state R24). -/
def setProductIdVerified (s : State) : State := s.setPiv true

/-- `zext_32` of a flag. -/
def flagBit (b : Bool) : Word := if b then 1#32 else 0#32

/-- The STATUS word (10_state R34, 44_host_ops R136). -/
def statusWord (s : State) : Word :=
  flagBit s.rc ||| flagBit s.piv <<< 1 ||| s.lastRoute.code.setWidth 32 <<< 4
    ||| s.lastCond.code.setWidth 32 <<< 8 ||| s.lastRxLen.setWidth 32 <<< 16

end Sys2Proof.Machine
end

