-- ==== Sys2Proof/Machine/Codec.lean ====
section
/-!
DEFINITION. ChannelSequencer and PacketCodec (spec 40_codec): `next`, `build`, `tx_frame`, the Transport's part and the
core's part of `rx_frame`, and `parse`.
-/

namespace Sys2Proof.Machine

/-- `next(c)` (40_codec R82, R83): the incremented counter, modulo 256, and the state that holds it. -/
def next (c : Channel) (s : State) : Byte × State :=
  let v := s.seq.get c + 1#8
  (v, s.setSeq (s.seq.set c v))

/-- `build(c, body)` (40_codec R85): `none` is OversizedBody, raised before anything is written (R86); else the frame's
length and the state with the counter risen and the frame in TX, whose length `txLen` keeps (log 16). -/
def build (c : Channel) (body : List Byte) (s : State) : Option (Nat × State) :=
  if Config.txCap < body.length + Config.hdr then none
  else
    let len := body.length + Config.hdr
    let (q, s1) := next c s
    some (len, ((s1.writeTx 0 (builtHeader len c q)).writeTx Config.hdr body).setTxLen len)

/-- `tx_frame(c, body, P)` up to its await (40_codec R88): the frame is built and its send is outstanding in phase `P`,
or OversizedBody has ended the command. -/
def txFrame (c : Channel) (body : List Byte) (p : Phase) (s : State) : State :=
  match build c body s with
  | none => raise .oversizedBody .absent s
  | some (_, s1) => s1.setCtl p

/-- The Transport's part of a receive that answers `Ok(r)` (20_memory R40): the bytes stand in `rx[0..r)`, the rest of RX
is kept. -/
def fillRx (bytes : List Byte) (s : State) : State := s.setRx (s.rx.write 0 bytes)

/-- The Transport's part of a receive that answers `Err(e)` (20_memory R41): every byte of RX is unspecified. -/
def spoilRx (s : State) : State := s.setRx s.rx.redraw

/-- The core's part of `rx_frame` (40_codec R89): the answer is taken, and LAST_RX_LEN is `r` for `Ok(r)` and 0 for
`Err(e)` (10_state R33). -/
def recordRx (r : Nat) (s : State) : State := s.taken.setLastRxLen (BitVec.ofNat 11 r)

/-- A parsed frame (40_codec R90). -/
structure View where
  declen : Nat
  channel : Byte
  sequence : Byte
  body : List Byte
deriving DecidableEq, Repr

/-- The declared length in the header bytes 0 and 1 (30_encoding R56). -/
def declen (b0 b1 : Byte) : Nat := (b1.extractLsb' 0 6).toNat * 256 + b0.toNat

/-- `parse(r)` (40_codec R90 to R92) on `rx[0..r)`, under a value of `LENGTH_CHECK`: `none` is `Corrupt`. -/
def parse (check : Bool) : List Byte → Option View
  | b0 :: b1 :: c :: q :: body =>
    if check = true ∧ declen b0 b1 ≠ Config.hdr + body.length then none
    else some { declen := declen b0 b1, channel := c, sequence := q, body := body }
  | _ => none

end Sys2Proof.Machine
end

