-- ==== Sys2Proof/Machine/Routing.lean ====
section
/-!
DEFINITION. ChannelDispatcher (spec 41_dispatch): the advertisement walk and the routing function.
-/

namespace Sys2Proof.Machine

/-- The loop of `tlv_ok` (41_dispatch R101) at body offset `i`, of a body of `m` bytes; `fuel` bounds the passes, and
`m` passes are enough because `i` rises by at least 2 on each. -/
def tlvWalk (body : List Byte) (m : Nat) : Nat → Nat → Bool
  | 0, i => decide (m ≤ i)
  | fuel + 1, i =>
    if i < m then
      if m < i + 2 then false
      else
        match body[i + 1]? with
        | none => false
        | some n => if m < i + 2 + n.toNat then false else tlvWalk body m fuel (i + 2 + n.toNat)
    else true

/-- `tlv_ok(r)` (41_dispatch R101) on the body `rx[4..r)`: the walk starts at body offset 1. -/
def tlvOk (body : List Byte) : Bool := tlvWalk body body.length body.length 1

/-- `route(v, r)` (41_dispatch R95): the route code, whether the frame is well formed, and the state with the flag it
sets. The received length `r` is the body's length and 4. -/
def route (v : View) (s : State) : Route × Bool × State :=
  if 3 < v.channel.toNat then (.ignoredChannel, true, s)
  else if v.channel.toNat = 3 then
    match v.body[5]? with
    | none => (.noReportId, true, s)
    | some id =>
      if id = Config.rotationVectorId then (.sensorRotationVector, true, s) else (.sensorOther, true, s)
  else
    match v.body[0]? with
    | none => (.noReportId, true, s)
    | some id =>
      if v.channel.toNat = 0 then
        if id = Config.advertisementId then
          if tlvOk v.body then (.advertisement, true, s) else (.none, false, s)
        else (.commandOther, true, s)
      else if v.channel.toNat = 1 then
        if id = Config.resetCompleteId then (.resetComplete, true, setResetComplete s)
        else (.executableOther, true, s)
      else if id = Config.commandResponseId then (.commandResponse, true, s)
      else if id = Config.productIdResponseId then (.productIdResponse, true, setProductIdVerified s)
      else (.hubControlOther, true, s)

/-- The end of a HANDLE_ONE (41_dispatch R109, R110): what it records, and the message count. -/
def handled (cond : Cond) (rt : Route) (count : Word) (s : State) : State :=
  respond .ok count rt .absent ((s.setLastCond cond).setLastRoute rt)

/-- HANDLE_ONE after its receive answered `Ok(r)` (41_dispatch R109). -/
def handleReceived (r : Nat) (s : State) : State :=
  if r = 0 then handled .ok .none 0#32 s
  else
    match parse s.lengthCheck (s.rxBytes r) with
    | none => handled .corruptFrame .none 0#32 s
    | some v =>
      match route v s with
      | (rt, true, s1) => handled .ok rt 1#32 s1
      | (_, false, s1) => handled .corruptFrame .none 0#32 s1

end Sys2Proof.Machine
end

