-- ==== Sys2Proof/Machine/Resume.lean ====
section
/-!
DEFINITION. How the core goes on when the collaborator it is held on has answered: from each phase of spec 10_state R29
to its next await or to the end of the command (42_init R111 to R122, 43_enable R125, 44_host_ops R129 to R133,
41_dispatch R109). The phase table of INIT is 42_init R121.
-/

namespace Sys2Proof.Machine

/-- Product-ID verification after its receive answered `Ok(r)` (42_init R112, 60_exceptions R139). -/
def verifyReceived (r : Nat) (s : State) : State :=
  if Config.hdr < r then
    if s.rxByte Config.hdr = Config.productIdResponseId then complete 0#32 (setProductIdVerified s)
    else raise .invalidChipIdentity (.identity (s.rxByte Config.hdr)) s
  else raise .invalidChipIdentity (.identity 0#8) s

/-- `ctx.n <- 0` (42_init R111). -/
def drainStart (s : State) : State := s.setCtx { s.ctx with n := 0#32 }

/-- `ctx.n <- trunc_32(ctx.n + 1)` (42_init R111). -/
def drainCount (s : State) : State := s.setCtx { s.ctx with n := s.ctx.n + 1#32 }

/-- The end of an EAT_ALL (44_host_ops R133): the condition that ended the drain, and the count. -/
def eatAllDone (cond : Cond) (s : State) : State := respond .ok s.ctx.n .none .absent (s.setLastCond cond)

/-- INIT step 7, and VERIFY_PRODUCT_ID: the request is sent (42_init R112). -/
def verifyStart (p : Phase) (s : State) : State := txFrame .hubControl productIdRequestBody p s

/-- INIT after `Transport.setup` answered `Ok` (42_init R113 step 2). -/
def afterSetup (s : State) : State := txFrame .executable softResetBody .initResetTx s

/-- The core after a `Transport.send` answered `Ok`. -/
def afterSend (s : State) : State :=
  match s.ctl with
  | .initResetTx => s.setCtl .initWaitReset
  | .initVerifyTx => s.setCtl .initVerifyRx
  | .verifyTx => s.setCtl .verifyRx
  | .softResetTx => complete 0#32 s
  | .enableTx => complete 0#32 s
  | .sendTx => complete (countValue s.txLen) s
  | .idle | .initSetup | .initWaitReset | .initDiscardRx | .initWaitSettle | .initDrainRx | .initDrainWait
  | .initVerifyRx | .verifyRx | .recvRx | .handleRx | .eatRx | .eatAllRx | .eatAllWait => s

/-- The core after a `Transport.receive` answered `Ok(r)` and RX and LAST_RX_LEN hold the answer. -/
def afterReceiveOk (r : Nat) (s : State) : State :=
  match s.ctl with
  | .initDiscardRx => s.setCtl .initWaitSettle
  | .initDrainRx => if r = 0 then verifyStart .initVerifyTx s else (drainCount s).setCtl .initDrainWait
  | .initVerifyRx => verifyReceived r s
  | .verifyRx => verifyReceived r s
  | .recvRx => complete (countValue r) s
  | .handleRx => handleReceived r s
  | .eatRx => complete (countValue r) s
  | .eatAllRx => if r = 0 then eatAllDone .ok s else (drainCount s).setCtl .eatAllWait
  | .idle | .initSetup | .initResetTx | .initWaitReset | .initWaitSettle | .initDrainWait | .initVerifyTx
  | .verifyTx | .softResetTx | .enableTx | .sendTx | .eatAllWait => s

/-- The core after a `Transport.receive` answered `Err(e)` and RX and LAST_RX_LEN hold the answer. -/
def afterReceiveErr (e : TErr) (s : State) : State :=
  match s.ctl with
  | .initDiscardRx => s.setCtl .initWaitSettle
  | .initDrainRx => verifyStart .initVerifyTx s
  | .initVerifyRx => raise .transportError (.transport e) s
  | .verifyRx => raise .transportError (.transport e) s
  | .recvRx => raise .transportError (.transport e) s
  | .handleRx => handled .transportError .none 0#32 s
  | .eatRx => respond .ok 0#32 .none .absent (s.setLastCond .transportError)
  | .eatAllRx => eatAllDone .transportError s
  | .idle | .initSetup | .initResetTx | .initWaitReset | .initWaitSettle | .initDrainWait | .initVerifyTx
  | .verifyTx | .softResetTx | .enableTx | .sendTx | .eatAllWait => s

/-- The core after a `Delay.wait` completed (70_reset R172). -/
def afterWait (s : State) : State :=
  match s.ctl with
  | .initWaitReset => s.setCtl .initDiscardRx
  | .initWaitSettle => (drainStart s).setCtl .initDrainRx
  | .initDrainWait => s.setCtl .initDrainRx
  | .eatAllWait => s.setCtl .eatAllRx
  | .idle | .initSetup | .initResetTx | .initDiscardRx | .initDrainRx | .initVerifyTx | .initVerifyRx | .verifyTx
  | .verifyRx | .softResetTx | .enableTx | .sendTx | .recvRx | .handleRx | .eatRx | .eatAllRx => s

/-- The core after the answer to its `setup` (42_init R113, R114), `none` for `Ok` and else the error. -/
def setupAnswered (err : Option TErr) (s : State) : State :=
  match err with
  | none => afterSetup s.taken
  | some e => raise .transportError (.transport e) s.taken

/-- The core after the answer to its `send` (40_codec R88), `none` for `Ok` and else the error. -/
def sendAnswered (err : Option TErr) (s : State) : State :=
  match err with
  | none => afterSend s.taken
  | some e => raise .transportError (.transport e) s.taken

/-- The core acts on the answer to the outstanding `send` (60_exceptions R150, 40_codec R88): the frame must be the one that
the send handed over (20_memory R42, log 12). -/
def transmit (frame : List Byte) (s : State) : Out :=
  if s.ctl.heldOn = .send ∧ s.txBytes s.txLen = frame then
    match s.pending with
    | some .answeredOk => .next (sendAnswered none s)
    | some (.answeredErr e) => .next (sendAnswered (some e) s)
    | some (.presented _) | some (.received _) | some .waited | none => .fault .noSendOutstanding
  else .fault .noSendOutstanding

/-- The core acts on the frame that answers the outstanding `receive` (60_exceptions R150, 20_memory R40): the frame must be
the one that the Transport wrote to `rx[0..r)` (log 11). -/
def deliver (frame : List Byte) (s : State) : Out :=
  if s.ctl.heldOn = .receive ∧ s.pending = some (.received frame.length) ∧ s.rxBytes frame.length = frame then
    if Config.rxCap < frame.length then .fault .receiveOverrun
    else .next (afterReceiveOk frame.length (recordRx frame.length s))
  else .fault .noReceiveOutstanding

/-- The core acts on the failure of the outstanding `receive` (40_codec R89, 20_memory R41). -/
def failReceive (e : TErr) (s : State) : Out :=
  if s.ctl.heldOn = .receive then .next (afterReceiveErr e (recordRx 0 s)) else .fault .noReceiveOutstanding

end Sys2Proof.Machine
end

