-- ==== Sys2Proof/Machine/Initialisation.lean ====
section
/-!
DEFINITION. The commands of spec 42_init: INIT and VERIFY_PRODUCT_ID, each up to its first await. The rest of each runs
when the collaborators answer (Machine/Resume.lean).
-/

namespace Sys2Proof.Machine

/-- INIT (42_init R113): step 1 issues `Transport.setup` (R114). -/
def execInit (s : State) : Out := acceptPlain 0x01#8 (fun t => t.setCtl .initSetup) s

/-- VERIFY_PRODUCT_ID (42_init R122): the product-ID request is built and its send issued. -/
def execVerifyProductId (s : State) : Out := acceptPlain 0x03#8 (verifyStart .verifyTx) s

end Sys2Proof.Machine
end

