-- ==== Sys2Proof/Machine/Readout.lean ====
section
/-!
DEFINITION. The readout commands READ_RX, READ_SEQ and READ_STATUS (spec 44_host_ops R134 to R136): they answer at once
and write neither LAST_COND nor any other register.
-/

namespace Sys2Proof.Machine

/-- The answer of a readout command: `respond(OK, value)` alone. -/
def readOut (value : State → Word) (s : State) : State := respond .ok (value s) .none .absent s

/-- READ_RX (44_host_ops R134). -/
def execReadRx (off : BitVec 10) (s : State) : Out :=
  accept 0x0B#8 0#8 (offsetField off) 0#32 [] (readOut fun t => byteValue (t.rxByte (offsetOf off))) s

/-- READ_SEQ (44_host_ops R135). -/
def execReadSeq (chan : Channel) (s : State) : Out :=
  accept 0x0C#8 (channelField chan) 0#16 0#32 [] (readOut fun t => byteValue (t.seq.get chan)) s

/-- READ_STATUS (44_host_ops R136). -/
def execReadStatus (s : State) : Out := acceptPlain 0x0D#8 (readOut statusWord) s

end Sys2Proof.Machine
end

