-- ==== Sys2Proof/Machine/ReceivedFrames.lean ====
section
/-!
DEFINITION. The frames the core receives (spec 41_dispatch R97 to R107): such a row runs when the Transport has answered
the outstanding receive with its frame (log 11, 13). What the core does with the frame is the rule of the phase that
issued the receive; only HANDLE_ONE dispatches it (40_codec R93).
-/

namespace Sys2Proof.Machine

/-- SENSOR_ROTATION_VECTOR (41_dispatch R99). -/
def execSensorRotationVector (h : RxHeader) (timestamp : BitVec 40) (rest : List Byte) (s : State) : Out :=
  deliver (encode (.sensorRotationVector h timestamp rest)) s

/-- SENSOR_OTHER (41_dispatch R99). -/
def execSensorOther (h : RxHeader) (timestamp : BitVec 40) (id : Byte) (rest : List Byte) (s : State) : Out :=
  deliver (encode (.sensorOther h timestamp id rest)) s

/-- ADVERTISEMENT (41_dispatch R100). -/
def execAdvertisement (h : RxHeader) (tlv : List Byte) (s : State) : Out := deliver (encode (.advertisement h tlv)) s

/-- COMMAND_OTHER (41_dispatch R102). -/
def execCommandOther (h : RxHeader) (id : Byte) (rest : List Byte) (s : State) : Out :=
  deliver (encode (.commandOther h id rest)) s

/-- RESET_COMPLETE (41_dispatch R103). -/
def execResetComplete (h : RxHeader) (rest : List Byte) (s : State) : Out := deliver (encode (.resetComplete h rest)) s

/-- EXECUTABLE_OTHER (41_dispatch R104). -/
def execExecutableOther (h : RxHeader) (id : Byte) (rest : List Byte) (s : State) : Out :=
  deliver (encode (.executableOther h id rest)) s

/-- COMMAND_RESPONSE (41_dispatch R105). -/
def execCommandResponse (h : RxHeader) (rest : List Byte) (s : State) : Out :=
  deliver (encode (.commandResponse h rest)) s

/-- PRODUCT_ID_RESPONSE (41_dispatch R106). -/
def execProductIdResponse (h : RxHeader) (rest : List Byte) (s : State) : Out :=
  deliver (encode (.productIdResponse h rest)) s

/-- HUBCONTROL_OTHER (41_dispatch R107). -/
def execHubControlOther (h : RxHeader) (id : Byte) (rest : List Byte) (s : State) : Out :=
  deliver (encode (.hubControlOther h id rest)) s

/-- IGNORED_CHANNEL (41_dispatch R97). -/
def execIgnoredChannel (h : RxHeader) (chan : Byte) (rest : List Byte) (s : State) : Out :=
  deliver (encode (.ignoredChannel h chan rest)) s

/-- NO_REPORT_ID (41_dispatch R98). -/
def execNoReportId (h : RxHeader) (chan : BitVec 2) (rest : List Byte) (s : State) : Out :=
  deliver (encode (.noReportId h chan rest)) s

end Sys2Proof.Machine
end

