-- ==== Sys2Proof/Machine/Receiving.lean ====
section
/-!
DEFINITION. The commands that receive: RECEIVE_PACKET, EAT_ONE, EAT_ALL (spec 44_host_ops) and HANDLE_ONE (41_dispatch),
each up to its first receive.
-/

namespace Sys2Proof.Machine

/-- RECEIVE_PACKET (44_host_ops R131). -/
def execReceivePacket (s : State) : Out := acceptPlain 0x07#8 (fun t => t.setCtl .recvRx) s

/-- HANDLE_ONE (41_dispatch R109). -/
def execHandleOne (s : State) : Out := acceptPlain 0x08#8 (fun t => t.setCtl .handleRx) s

/-- EAT_ONE (44_host_ops R132). -/
def execEatOne (s : State) : Out := acceptPlain 0x09#8 (fun t => t.setCtl .eatRx) s

/-- EAT_ALL (44_host_ops R133): the drain begins with `ctx.n <- 0` (42_init R111). -/
def execEatAll (s : State) : Out := acceptPlain 0x0A#8 (fun t => (drainStart t).setCtl .eatAllRx) s

end Sys2Proof.Machine
end

