-- ==== Sys2Proof/Machine/Sending.lean ====
section
/-!
DEFINITION. The commands that only send: SOFT_RESET and SEND_FRAME (spec 44_host_ops), ENABLE_REPORT and
ENABLE_ROTATION_VECTOR (43_enable), each up to its send.
-/

namespace Sys2Proof.Machine

/-- SOFT_RESET (44_host_ops R129). -/
def execSoftReset (s : State) : Out := acceptPlain 0x02#8 (txFrame .executable softResetBody .softResetTx) s

/-- The rule shared by the two enables (43_enable R125): one set-feature frame on HubControl. -/
def enable (id : Byte) (intervalMs : Word) (s : State) : State :=
  txFrame .hubControl (setFeatureBody id (intervalUs intervalMs)) .enableTx s

/-- ENABLE_REPORT (43_enable R125). -/
def execEnableReport (id : Byte) (intervalMs : Word) (s : State) : Out :=
  accept 0x04#8 id 0#16 intervalMs [] (enable id intervalMs) s

/-- ENABLE_ROTATION_VECTOR (43_enable R126): ENABLE_REPORT with report id 0x05. -/
def execEnableRotationVector (intervalMs : Word) (s : State) : Out :=
  accept 0x05#8 0#8 0#16 intervalMs [] (enable Config.rotationVectorId intervalMs) s

/-- SEND_FRAME (44_host_ops R130). -/
def execSendFrame (chan : Channel) (body : List Byte) (s : State) : Out :=
  accept 0x06#8 (channelField chan) (lengthField body) 0#32 body (txFrame chan body .sendTx) s

end Sys2Proof.Machine
end

