-- ==== Sys2Proof/Machine/SentFrames.lean ====
section
/-!
DEFINITION. The frames the core sends (spec 30_encoding R64, R65, R67, 40_codec R85): such a row runs when its frame is
the outstanding send and the Transport has answered it (log 12, 13).
-/

namespace Sys2Proof.Machine

/-- SOFT_RESET_FRAME (30_encoding R64). -/
def execSoftResetFrame (seq : Byte) (s : State) : Out := transmit (encode (.softResetFrame seq)) s

/-- PRODUCT_ID_REQUEST (30_encoding R65). -/
def execProductIdRequest (seq : Byte) (s : State) : Out := transmit (encode (.productIdRequest seq)) s

/-- SET_FEATURE (30_encoding R67, 43_enable R124). -/
def execSetFeature (seq id : Byte) (us : Word) (s : State) : Out := transmit (encode (.setFeature seq id us)) s

/-- GENERIC_FRAME (40_codec R85). -/
def execGenericFrame (chan : Channel) (seq : Byte) (body : List Byte) (s : State) : Out :=
  transmit (encode (.genericFrame chan seq body)) s

end Sys2Proof.Machine
end

