-- ==== Sys2Proof/Machine/Dispatch.lean ====
section
/-!
DEFINITION. The meaning of every instruction, one arm for each row of spec/opcode_table.json.
-/

namespace Sys2Proof.Machine

def exec (i : Instr) (s : State) : Host.Outcome State Fault Refusal :=
  match i with
  | .init => Sys2Proof.Machine.execInit s
  | .softReset => Sys2Proof.Machine.execSoftReset s
  | .verifyProductId => Sys2Proof.Machine.execVerifyProductId s
  | .enableReport id intervalMs => Sys2Proof.Machine.execEnableReport id intervalMs s
  | .enableRotationVector intervalMs => Sys2Proof.Machine.execEnableRotationVector intervalMs s
  | .sendFrame chan body => Sys2Proof.Machine.execSendFrame chan body s
  | .receivePacket => Sys2Proof.Machine.execReceivePacket s
  | .handleOne => Sys2Proof.Machine.execHandleOne s
  | .eatOne => Sys2Proof.Machine.execEatOne s
  | .eatAll => Sys2Proof.Machine.execEatAll s
  | .readRx off => Sys2Proof.Machine.execReadRx off s
  | .readSeq chan => Sys2Proof.Machine.execReadSeq chan s
  | .readStatus => Sys2Proof.Machine.execReadStatus s
  | .softResetFrame seq => Sys2Proof.Machine.execSoftResetFrame seq s
  | .productIdRequest seq => Sys2Proof.Machine.execProductIdRequest seq s
  | .setFeature seq id us => Sys2Proof.Machine.execSetFeature seq id us s
  | .genericFrame chan seq body => Sys2Proof.Machine.execGenericFrame chan seq body s
  | .sensorRotationVector h timestamp rest => Sys2Proof.Machine.execSensorRotationVector h timestamp rest s
  | .sensorOther h timestamp id rest => Sys2Proof.Machine.execSensorOther h timestamp id rest s
  | .advertisement h tlv => Sys2Proof.Machine.execAdvertisement h tlv s
  | .commandOther h id rest => Sys2Proof.Machine.execCommandOther h id rest s
  | .resetComplete h rest => Sys2Proof.Machine.execResetComplete h rest s
  | .executableOther h id rest => Sys2Proof.Machine.execExecutableOther h id rest s
  | .commandResponse h rest => Sys2Proof.Machine.execCommandResponse h rest s
  | .productIdResponse h rest => Sys2Proof.Machine.execProductIdResponse h rest s
  | .hubControlOther h id rest => Sys2Proof.Machine.execHubControlOther h id rest s
  | .ignoredChannel h chan rest => Sys2Proof.Machine.execIgnoredChannel h chan rest s
  | .noReportId h chan rest => Sys2Proof.Machine.execNoReportId h chan rest s

end Sys2Proof.Machine
end

