-- ==== Sys2Proof/Machine/Agents.lean ====
section
/-!
DEFINITION. The steps of the Host, the Transport and the Delay provider (spec 00_scope R6, 60_exceptions R150), and whose
step is next. Each hands the core one event; the core's own step is in Machine/Fetch.lean and Machine/Step.lean (log 22).
-/

namespace Sys2Proof.Machine

/-- The four agents (00_scope R6). -/
inductive Agent where
  | core
  | host
  | transport
  | delay
deriving DecidableEq, Repr

/-- The agent whose step is next (00_scope R6, R7, R13): the core when it has been handed an event, else the agent it is
held on, and between commands the Host. -/
def State.turn (s : State) : Agent :=
  if s.pending.isSome then .core
  else
    match s.ctl.heldOn with
    | .host => .host
    | .setup | .send | .receive => .transport
    | .wait _ => .delay

/-- The Host's step (30_encoding R71, R74): it presents a command, or whoever resets the block does (70_reset R155, R156), or
it does nothing and the core rests in IDLE (60_exceptions R154). -/
def hostStep (s : State) : Out :=
  match s.host with
  | [] => .next s
  | .hardwareReset :: rest => .next (hardwareReset (s.setHost rest))
  | .present bytes :: rest =>
    if isTransfer bytes then .next ((s.setHost rest).setPending (some (.presented bytes)))
    else .fault .commandTransfer

/-- What the Transport hands the core by its answer to a `setup` or a `send` (60_exceptions R150): silence hands it
nothing. -/
def handStatus : StatusAnswer × State → State
  | (.silent, s) => s
  | (.ok, s) => s.setPending (some .answeredOk)
  | (.err e, s) => s.setPending (some (.answeredErr e))

/-- What the Transport does to RX and hands the core by its answer to a `receive` (20_memory R40, R41, log 11). -/
def handReceive : ReceiveAnswer × State → Out
  | (.silent, s) => .next s
  | (.ok bytes, s) =>
    if Config.rxCap < bytes.length then .fault .receiveOverrun
    else .next ((fillRx bytes s).setPending (some (.received bytes.length)))
  | (.err e, s) => .next ((spoilRx s).setPending (some (.answeredErr e)))

/-- The Transport's step: it answers the outstanding request, or is silent (60_exceptions R150). It has none while no
request to it is outstanding. -/
def transportStep (s : State) : Out :=
  match s.ctl.heldOn with
  | .setup => .next (handStatus s.takeSetup)
  | .send => .next (handStatus s.takeSend)
  | .receive => handReceive s.takeReceive
  | .host | .wait _ => .next s

/-- The Delay provider's step: the outstanding wait completes (70_reset R172, log 17). -/
def delayStep (s : State) : State := s.setPending (some .waited)

end Sys2Proof.Machine
end

