-- ==== Sys2Proof/Machine/Fetch.lean ====
section
/-!
DEFINITION. What the core's step runs (spec 00_scope R6, R13): the instruction in the event it has been handed, the Host's
command, the frame of the answered send, or the frame that answers a receive (log 13); the other events run no row of the
opcode table. Also how a word of the table is placed there (log 13).
-/

namespace Sys2Proof.Machine

/-- What the core's step does: run an instruction, or end as it says without one. -/
inductive Fetched where
  | run (i : Instr)
  | ends (o : Out)

/-- The Host presented a command (44_host_ops R127): its instruction, or BadCommand (R128). -/
def fetchCommand (bytes : List Byte) (s : State) : Fetched :=
  match decodeCommand bytes with
  | .ok i => .run i
  | .error .transfer => .ends (.fault .commandTransfer)
  | .error _ => .ends (refuseCommand s)

/-- The Transport answered a `setup` or a `send`. After a send the row of its frame runs; a frame that `build` cannot have
written (in no state that a run reaches) goes the same way. -/
def fetchAnswered (err : Option TErr) (s : State) : Fetched :=
  match s.ctl.heldOn with
  | .setup => .ends (.next (setupAnswered err s))
  | .send =>
    match decodeSent (s.txBytes s.txLen) with
    | .ok i => .run i
    | .error _ => .ends (transmit (s.txBytes s.txLen) s)
  | .host | .receive | .wait _ => .ends (.fault .noRequestOutstanding)

/-- The Transport answered a `receive` with `r` bytes: a frame of a row of the table, or any other bytes. -/
def fetchReceived (r : Nat) (s : State) : Fetched :=
  match decodeReceived s.lengthCheck (s.rxBytes r) with
  | .ok i => .run i
  | .error _ => .ends (deliver (s.rxBytes r) s)

/-- What the event handed to the core makes it run. -/
def fetch (s : State) : Fetched :=
  match s.pending with
  | none => .ends (.next s)
  | some (.presented bytes) => fetchCommand bytes s
  | some .answeredOk => fetchAnswered none s
  | some (.received r) => fetchReceived r s
  | some (.answeredErr e) => if s.ctl.heldOn = .receive then .ends (failReceive e s) else fetchAnswered (some e) s
  | some .waited =>
    match s.ctl.heldOn with
    | .wait _ => .ends (.next (afterWait s.taken))
    | .host | .setup | .send | .receive => .ends (.fault .noRequestOutstanding)

/-- `s` with a frame to be sent in TX, its phase, and the Transport's `Ok` to its send handed to the core (log 13). -/
def placeSent (p : Phase) (frame : List Byte) (s : State) : State :=
  (((s.setTx (s.tx.write 0 frame)).setTxLen frame.length).setCtl p).setPending (some .answeredOk)

/-- `s` with a HANDLE_ONE that is handed a frame the Transport wrote to RX (log 13). -/
def placeReceived (frame : List Byte) (s : State) : State :=
  ((fillRx frame s).setCtl .handleRx).setPending (some (.received frame.length))

/-- `s` with a command handed to the idle core (log 13). -/
def placeCommand (bytes : List Byte) (s : State) : State := (s.setCtl .idle).setPending (some (.presented bytes))

/-- `s` with the instruction of a table word placed where `fetch` reads it next (log 13). -/
def placeTableWord (s : State) (nbits w : Nat) : State :=
  if nbits ≤ 32 then placeCommand (wordTransfer w) s
  else
    match tableFrame nbits w with
    | some (.softResetFrame _) => placeSent .softResetTx (lowBytes (nbits / 8) w) s
    | some (.productIdRequest _) => placeSent .verifyTx (lowBytes (nbits / 8) w) s
    | some (.setFeature _ _ _) => placeSent .enableTx (lowBytes (nbits / 8) w) s
    | some (.genericFrame _ _ _) => placeSent .sendTx (lowBytes (nbits / 8) w) s
    | _ => placeReceived (lowBytes (nbits / 8) w) s

end Sys2Proof.Machine
end

