-- ==== Sys2Proof/Machine/Step.lean ====
section
/-!
DEFINITION. One step of the machine: the step of the agent whose turn it is (spec 00_scope R6, log 22).
-/

namespace Sys2Proof.Machine

/-- One step. The core's runs from one await to the next or to the response (00_scope R13). -/
def step (s : State) : Host.Outcome State Fault Refusal :=
  match s.turn with
  | .core =>
    match fetch s with
    | .run i => exec i s
    | .ends o => o
  | .host => hostStep s
  | .transport => transportStep s
  | .delay => .next (delayStep s)

/-- `s` with the instruction of a word of the opcode table as what the next step runs. -/
def State.withFetchWord (s : State) (nbits w : Nat) : State := placeTableWord s nbits w

end Sys2Proof.Machine
end

