-- ==== Sys2Proof/Safety.lean ====
section
/-!
DEFINITION. The terms in which claims about runs are stated: several steps, and the invariants of the machine (spec
10_state R24, R29 to R33, 20_memory R37, R42, 60_exceptions R140, R150).
-/

namespace Sys2Proof.Machine

/-- `n` steps, as long as each has a next state. -/
def steps : Nat → State → Out
  | 0, s => .next s
  | n + 1, s =>
    match step s with
    | .next t => steps n t
    | .fault r => .fault r
    | .refused r => .refused r

/-- `LAST_RX_LEN` holds a length of RX (10_state R16, R33). -/
def RxLenInRange (s : State) : Prop := s.lastRxLen.toNat ≤ Config.rxCap

/-- Condition code 3 is nowhere (60_exceptions R140). -/
def NoFirmwareCondition (s : State) : Prop :=
  s.lastCond ≠ .invalidFirmwareVersion ∧ ∀ r, s.response = some r → r.cond ≠ .invalidFirmwareVersion

/-- The response port is empty while a command is in progress (30_encoding R71: exactly one response, at its end). -/
def SilentWhileBusy (s : State) : Prop := s.ctl ≠ .idle → s.response = none

/-- What the core has been handed answers what it is held on (60_exceptions R150, 30_encoding R71, R74, 20_memory R40): a
whole command only while idle, the answer to the outstanding request and no other. -/
def EventFitsPhase (s : State) : Prop :=
  match s.pending with
  | none => True
  | some (.presented bytes) => s.ctl = .idle ∧ isTransfer bytes = true
  | some .answeredOk => s.ctl.heldOn = .setup ∨ s.ctl.heldOn = .send
  | some (.received r) => s.ctl.heldOn = .receive ∧ r ≤ Config.rxCap
  | some (.answeredErr _) => s.ctl.heldOn = .setup ∨ s.ctl.heldOn = .send ∨ s.ctl.heldOn = .receive
  | some .waited => ∃ units, s.ctl.heldOn = .wait units

/-- The opcodes of the commands that use a phase (10_state R29, "used by"; 30_encoding R73). -/
def Phase.usedBy : Phase → List Byte
  | .idle => []
  | .initSetup | .initResetTx | .initWaitReset | .initDiscardRx | .initWaitSettle | .initDrainRx | .initDrainWait
  | .initVerifyTx | .initVerifyRx => [0x01#8]
  | .softResetTx => [0x02#8]
  | .verifyTx | .verifyRx => [0x03#8]
  | .enableTx => [0x04#8, 0x05#8]
  | .sendTx => [0x06#8]
  | .recvRx => [0x07#8]
  | .handleRx => [0x08#8]
  | .eatRx => [0x09#8]
  | .eatAllRx | .eatAllWait => [0x0A#8]

/-- While a command is in progress, `ctx` holds it: its opcode is one that uses the phase (10_state R29, R30). -/
def ContextFitsPhase (s : State) : Prop := s.ctl ≠ .idle → s.ctx.op ∈ s.ctl.usedBy

/-- The frame of the outstanding send is the one that the command in progress builds, with the current count of its
channel (20_memory R42, 30_encoding R57, R64, R65, R67, 40_codec R88). -/
def OutstandingFrame (s : State) : Prop :=
  match s.ctl with
  | .initResetTx | .softResetTx => s.txBytes s.txLen = encode (.softResetFrame s.seq.executable)
  | .initVerifyTx | .verifyTx => s.txBytes s.txLen = encode (.productIdRequest s.seq.hubControl)
  | .enableTx =>
    s.txBytes s.txLen = encode (.setFeature s.seq.hubControl
      (if s.ctx.op = 0x04#8 then s.ctx.a8 else Config.rotationVectorId) (intervalUs s.ctx.intervalMs))
  | .sendTx =>
    ∃ c : Channel, s.ctx.a8 = c.toByte ∧ s.ctx.body.length + Config.hdr ≤ Config.txCap
      ∧ s.txLen = s.ctx.body.length + Config.hdr ∧ s.txBytes s.txLen = builtFrame c (s.seq.get c) s.ctx.body
  | _ => True

/-! ### What a command that sends does -/

/-- From `s` to `t` the core has built `frame` on channel `c` and issued its send in phase `p` (40_codec R85, R88): TX
holds the frame from offset 0 and what it held beyond, the counter of `c` has risen, and nothing else is written. -/
def SendIssued (c : Channel) (frame : List Byte) (p : Phase) (s t : State) : Prop :=
  t.ctl = p ∧ t.request = some (.send frame) ∧ t.txLen = frame.length
    ∧ (∀ i, i < frame.length → t.txByte i = frame.getD i 0#8) ∧ (∀ i, frame.length ≤ i → t.txByte i = s.txByte i)
    ∧ t.seq.get c = s.seq.get c + 1#8 ∧ (∀ d, d ≠ c → t.seq.get d = s.seq.get d)
    ∧ t.rc = s.rc ∧ t.piv = s.piv ∧ t.rx = s.rx ∧ t.ctx = s.ctx ∧ t.lastCond = s.lastCond
    ∧ t.lastRoute = s.lastRoute ∧ t.lastRxLen = s.lastRxLen ∧ t.response = s.response
    ∧ t.lengthCheck = s.lengthCheck ∧ t.host = s.host ∧ t.transport = s.transport

/-- The values that calls of `next` return, each with its channel (40_codec R82, R84). -/
def nextCalls : List Channel → State → List (Channel × Byte)
  | [], _ => []
  | c :: rest, s => (c, (next c s).1) :: nextCalls rest (next c s).2

/-! ### What a receive does -/

/-- The core has been handed `frame` as the answer to a receive (20_memory R40): the Transport has written it to
`rx[0..r)`. -/
def FrameArrived (frame : List Byte) (s : State) : Prop :=
  s.pending = some (.received frame.length) ∧ s.rxBytes frame.length = frame

/-- The core has been handed the frame of a well-formed received row (41_dispatch R97 to R107). -/
def RowArrived (i : Instr) (s : State) : Prop := i.wf s.lengthCheck = true ∧ FrameArrived (encode i) s

/-- From `s` to `t` the core has taken `frame` (40_codec R89, 10_state R33): LAST_RX_LEN is its length; RX, which holds it,
no register of the sending side and nothing of the other agents is touched. -/
def FrameReceived (frame : List Byte) (s t : State) : Prop :=
  t.lastRxLen.toNat = frame.length ∧ t.pending = none ∧ t.rx = s.rx ∧ t.seq = s.seq ∧ t.tx = s.tx ∧ t.txLen = s.txLen
    ∧ t.lengthCheck = s.lengthCheck ∧ t.host = s.host ∧ t.transport = s.transport

/-- From `s` to `t` a HANDLE_ONE has received `frame`, routed it as `rt` and answered count 1 (41_dispatch R109, R110). -/
def FrameHandled (frame : List Byte) (rt : Route) (s t : State) : Prop :=
  FrameReceived frame s t ∧ t.lastCond = .ok ∧ t.lastRoute = rt ∧ t.ctl = .idle ∧ t.ctx = s.ctx
    ∧ t.response = some { cond := .ok, value := 1#32, route := rt, info := .absent }

/-- The bytes are whole tag-length-value elements one after another (30_encoding R61). -/
def ElementStream (stream : List Byte) : Prop :=
  ∃ elements : List (Byte × List Byte), (∀ e ∈ elements, e.2.length < 256)
    ∧ stream = elements.flatMap fun e => e.1 :: BitVec.ofNat 8 e.2.length :: e.2

/-- The declared length in the first two bytes of a frame (30_encoding R56): `rx[1][5:0] * 256 + rx[0]`. -/
def declaredLength : List Byte → Nat
  | b0 :: b1 :: _ => b1.toNat % 64 * 256 + b0.toNat
  | _ => 0

/-- A received frame that HANDLE_ONE finds corrupt (60_exceptions R141): too short for a header, under LENGTH_CHECK of
another length than it declares, or an advertisement whose stream is not whole elements. -/
def CorruptReceived (check : Bool) (frame : List Byte) : Prop :=
  frame.length < 4 ∨ (check = true ∧ declaredLength frame ≠ frame.length)
    ∨ ∃ b0 b1 q stream, frame = b0 :: b1 :: 0#8 :: q :: 0#8 :: stream ∧ ¬ ElementStream stream

/-! ### Command words -/

/-- The command words that acceptance refuses (30_encoding R75, R76, 44_host_ops R127): an opcode out of 0x01 to 0x0D, a
nonzero field that the opcode fixes at 0, a channel above 5, an offset above 1023. -/
def IllegalWord (op a8 : Byte) (a16 : Half) : Prop :=
  op = 0x00#8 ∨ 0x0D < op.toNat
    ∨ (op ≠ 0x04#8 ∧ op ≠ 0x06#8 ∧ op ≠ 0x0C#8 ∧ a8 ≠ 0#8)
    ∨ (op ≠ 0x06#8 ∧ op ≠ 0x0B#8 ∧ a16 ≠ 0#16)
    ∨ ((op = 0x06#8 ∨ op = 0x0C#8) ∧ 5 < a8.toNat)
    ∨ (op = 0x0B#8 ∧ 1023 < a16.toNat)

/-- The Host's next move is a hardware reset, and it can happen (70_reset R155, R156). -/
def ResetIsNext (s : State) : Prop := s.ctl = .idle ∧ s.pending = none ∧ s.host.head? = some .hardwareReset

end Sys2Proof.Machine
end

