-- ==== Sys2Proof/Certificates/Slice0/Obligations.lean ====
section
/-!
DEFINITION. The statements for the provers, from the numbered rules of the spec. `accepted` is the state in which an
accepted command's own rule runs (44_host_ops R127); every other name is the model's or stands in Safety.lean.
-/

open Sys2Proof Sys2Proof.Machine

/-! ### Encodings (30_encoding) -/

/-- Every well-formed host command decodes from its own bytes (30_encoding R72 to R74). -/
def Obligations.CommandDecodeEncode : Prop :=
  ∀ (i : Instr) (check : Bool), i.isCommand = true → i.wf check = true → decodeCommand (encode i) = .ok i

/-- Every well-formed received frame decodes from its own bytes (30_encoding R55, R56, R59, R62), under either value of
LENGTH_CHECK (00_scope R9). -/
def Obligations.ReceivedDecodeEncode : Prop :=
  ∀ (i : Instr) (check : Bool), i.isReceived = true → i.wf check = true → decodeReceived check (encode i) = .ok i

/-- Every well-formed sent frame decodes from its own bytes (30_encoding R57, R64, R65, R67). -/
def Obligations.SentDecodeEncode : Prop :=
  ∀ (i : Instr) (check : Bool), i.isSent = true → i.wf check = true → decodeSent (encode i) = .ok i

/-- The other way: whatever a decoder reads is well formed and encodes to the very bytes it was read from. -/
def Obligations.DecodedBytesAreTheEncoding : Prop :=
  ∀ (check : Bool) (b : List Byte) (i : Instr),
    (decodeCommand b = .ok i → i.isCommand = true ∧ i.wf check = true ∧ encode i = b)
      ∧ (decodeReceived check b = .ok i → i.isReceived = true ∧ i.wf check = true ∧ encode i = b)
      ∧ (decodeSent b = .ok i → i.isSent = true ∧ i.wf check = true ∧ encode i = b)

/-- Words written out from the encodings of 30_encoding R73, R64, R65, R67 and 95_test_vectors, one for each family. -/
def Obligations.SpecWordsDecode : Prop :=
  decodeTableWord 32 0x00000001 = some .init
    ∧ decodeTableWord 32 0x00000002 = some .softReset
    ∧ decodeTableWord 32 0x0000000A = some .eatAll
    ∧ decodeTableWord 32 0x03FF000B = some (.readRx 1023#10)
    ∧ decodeTableWord 32 0x0000010C = some (.readSeq .executable)
    ∧ decodeTableWord 32 0x00000606 = none
    ∧ decodeCommand [0x04#8, 0x05#8, 0x00#8, 0x00#8, 0x64#8, 0x00#8, 0x00#8, 0x00#8] = .ok (.enableReport 0x05#8 100#32)
    ∧ decodeSent [0x06#8, 0x00#8, 0x02#8, 0x04#8, 0xF9#8, 0x00#8] = .ok (.productIdRequest 0x04#8)
    ∧ decodeReceived true [0x05#8, 0xC0#8, 0x01#8, 0x07#8, 0x01#8]
      = .ok (.resetComplete { declared := 5#14, reserved := 3#2, sequence := 7#8 } [])

/-- The words that acceptance refuses are exactly the illegal ones of 30_encoding R75, R76 and 44_host_ops R127. -/
def Obligations.IllegalWordsAreExactlyRefused : Prop :=
  ∀ (op a8 : Byte) (a16 : Half) (operands : List Byte), operands.length = operandCount op a16 →
    (decodeCommand (commandBytes op a8 a16 operands) = .error .badCommand ↔ IllegalWord op a8 a16)

/-- An illegal word answers BadCommand and changes nothing but LAST_COND (30_encoding R75, R76, 44_host_ops R128); the
presented word and the response port are the model's (log 15, 22). -/
def Obligations.RefusedWordAnswersBadCommand : Prop :=
  ∀ (s : State) (op a8 : Byte) (a16 : Half) (operands : List Byte), s.ctl = .idle →
    s.pending = some (.presented (commandBytes op a8 a16 operands)) → operands.length = operandCount op a16 →
    IllegalWord op a8 a16 →
    step s = .next { s with
      pending := none
      lastCond := .badCommand
      response := some { cond := .badCommand, value := 0#32, route := .none, info := .absent } }

/-- Bytes other than a word and the operand bytes its opcode takes have no move (30_encoding R74; the fault is the
model's choice, log 9). -/
def Obligations.OtherTransfersHaveNoMove : Prop :=
  ∀ (s : State) (bytes : List Byte) (rest : List HostEvent), s.ctl = .idle → s.pending = none →
    s.host = .present bytes :: rest →
    (bytes.length < 4 → step s = .fault .commandTransfer)
      ∧ (∀ (op a8 : Byte) (a16 : Half) (operands : List Byte), bytes = commandBytes op a8 a16 operands →
          operands.length ≠ operandCount op a16 → step s = .fault .commandTransfer)

/-! ### Steps -/

/-- The core's step runs the instruction in what it has been handed: the Host's command, the frame of the answered send, or
the frame that answers the receive (log 13, 22). -/
def Obligations.StepRunsDecodedInstruction : Prop :=
  ∀ (s : State) (i : Instr),
    (∀ bytes, s.pending = some (.presented bytes) → decodeCommand bytes = .ok i → step s = exec i s)
      ∧ (s.ctl.heldOn = .send → (s.pending = some .answeredOk ∨ ∃ e, s.pending = some (.answeredErr e)) →
          decodeSent (s.txBytes s.txLen) = .ok i → step s = exec i s)
      ∧ (∀ r, s.pending = some (.received r) → decodeReceived s.lengthCheck (s.rxBytes r) = .ok i → step s = exec i s)

/-- While a request is outstanding and not answered, the core takes no step (00_scope R6 to R8): a step of another agent
writes no register of the core, nor its parameter, and a silent agent hands it nothing. Silence as an answer and an idle Host
are the model's (log 1, 2, 8). -/
def Obligations.HeldCoreTakesNoStep : Prop :=
  ∀ s : State, s.pending = none →
    (∀ t, ¬ ResetIsNext s → step s = .next t →
        t.seq = s.seq ∧ t.rc = s.rc ∧ t.piv = s.piv ∧ t.tx = s.tx ∧ t.txLen = s.txLen ∧ t.ctl = s.ctl ∧ t.ctx = s.ctx
          ∧ t.lastCond = s.lastCond ∧ t.lastRoute = s.lastRoute ∧ t.lastRxLen = s.lastRxLen ∧ t.response = s.response
          ∧ t.lengthCheck = s.lengthCheck)
      ∧ (∀ rest, s.ctl.heldOn = .setup → s.transport.setups = .silent :: rest →
          step s = .next { s with transport := { s.transport with setups := rest } })
      ∧ (∀ rest, s.ctl.heldOn = .send → s.transport.sends = .silent :: rest →
          step s = .next { s with transport := { s.transport with sends := rest } })
      ∧ (∀ rest, s.ctl.heldOn = .receive → s.transport.receives = .silent :: rest →
          step s = .next { s with transport := { s.transport with receives := rest } })
      ∧ (s.ctl = .idle → s.host = [] → step s = .next s)

/-- Each other agent's step (00_scope R6): it hands the core one event, and writes nothing else of the block but what a
receive does to RX (30_encoding R71, 60_exceptions R150, 20_memory R40, R41). The bytes of a failed receive are free values
(log 3); the lists are the model's (log 1, 8), and so is that an event is kept until the core's step (log 22). -/
def Obligations.AgentsHandTheirEvents : Prop :=
  ∀ s : State, s.pending = none →
    (∀ op a8 a16 operands rest, s.ctl = .idle → s.host = .present (commandBytes op a8 a16 operands) :: rest →
        operands.length = operandCount op a16 →
        step s = .next { s with host := rest, pending := some (.presented (commandBytes op a8 a16 operands)) })
      ∧ (∀ rest, s.ctl.heldOn = .setup →
          (s.transport.setups = .ok :: rest →
              step s = .next { s with
                transport := { s.transport with setups := rest }
                pending := some .answeredOk })
            ∧ ∀ e, s.transport.setups = .err e :: rest →
              step s = .next { s with
                transport := { s.transport with setups := rest }
                pending := some (.answeredErr e) })
      ∧ (∀ rest, s.ctl.heldOn = .send →
          (s.transport.sends = .ok :: rest →
              step s = .next { s with
                transport := { s.transport with sends := rest }
                pending := some .answeredOk })
            ∧ ∀ e, s.transport.sends = .err e :: rest →
              step s = .next { s with
                transport := { s.transport with sends := rest }
                pending := some (.answeredErr e) })
      ∧ (∀ rest, s.ctl.heldOn = .receive →
          (∀ frame, s.transport.receives = .ok frame :: rest → frame.length ≤ 1024 →
              ∃ t, step s = .next t ∧ FrameArrived frame t ∧ (∀ i, frame.length ≤ i → t.rxByte i = s.rxByte i)
                ∧ t = { s with
                    transport := { s.transport with receives := rest }
                    rx := t.rx
                    pending := some (.received frame.length) })
            ∧ ∀ e, s.transport.receives = .err e :: rest →
              ∃ t, step s = .next t ∧ (∀ i, t.rxByte i = Config.rxDraw (s.rx.epoch + 1) i)
                ∧ t = { s with
                    transport := { s.transport with receives := rest }
                    rx := t.rx
                    pending := some (.answeredErr e) })
      ∧ (∀ units, s.ctl.heldOn = .wait units → step s = .next { s with pending := some .waited })

/-- Every wait is one request of 50 or 1 time units and one completion, after which the core goes on (42_init R117, 70_reset
R172); that the Delay provider completes it at its next step is the model's choice (log 17). -/
def Obligations.WaitsComplete : Prop :=
  ∀ s : State, s.pending = none →
    (s.ctl = .initWaitReset → s.request = some (.wait 50)
        ∧ steps 2 s = .next { s with ctl := .initDiscardRx })
      ∧ (s.ctl = .initWaitSettle → s.request = some (.wait 50)
          ∧ steps 2 s = .next { s with ctl := .initDrainRx, ctx := { s.ctx with n := 0#32 } })
      ∧ (s.ctl = .initDrainWait → s.request = some (.wait 1) ∧ steps 2 s = .next { s with ctl := .initDrainRx })
      ∧ (s.ctl = .eatAllWait → s.request = some (.wait 1) ∧ steps 2 s = .next { s with ctl := .eatAllRx })

/-- A hardware reset while idle sets every register to its reset value (10_state R36, 70_reset R155): the buffers are
drawn anew, and the parameter and what the Host and the Transport will do are not the block's (log 7, 24). -/
def Obligations.HardwareResetSetsEveryRegister : Prop :=
  ∀ (s : State) (rest : List HostEvent), s.ctl = .idle → s.pending = none → s.host = .hardwareReset :: rest →
    ∃ t, step s = .next t ∧ (∀ c, t.seq.get c = 0#8) ∧ t.rc = false ∧ t.piv = false ∧ t.ctl = .idle
      ∧ t.lastCond = .ok ∧ t.lastRoute = .none ∧ t.lastRxLen = 0#11
      ∧ (∀ i, t.rxByte i = Config.rxDraw (s.rx.epoch + 1) i) ∧ (∀ i, t.txByte i = Config.txDraw (s.tx.epoch + 1) i)
      ∧ t.pending = none ∧ t.lengthCheck = s.lengthCheck ∧ t.host = rest ∧ t.transport = s.transport

/-- The registers after a hardware reset (10_state R36). -/
def Obligations.ResetValues : Prop :=
  (∀ c, State.reset.seq.get c = 0#8) ∧ State.reset.rc = false ∧ State.reset.piv = false ∧ State.reset.ctl.code = 0#5
    ∧ State.reset.lastCond.code = 0#3 ∧ State.reset.lastRoute.code = 0#4 ∧ State.reset.lastRxLen = 0#11
    ∧ statusWord State.reset = 0#32 ∧ State.reset.request = none

/-! ### Sequencer and codec (40_codec) -/

/-- `next(c)` returns and stores the counter's successor modulo 256, and touches nothing else (40_codec R82). -/
def Obligations.NextIncrementsOneCounter : Prop :=
  ∀ (c : Channel) (s : State),
    (next c s).1.toNat = ((s.seq.get c).toNat + 1) % 256 ∧ (next c s).2.seq.get c = (next c s).1
      ∧ (∀ d, d ≠ c → (next c s).2.seq.get d = s.seq.get d)
      ∧ (next c s).2 = { s with seq := (next c s).2.seq }

/-- The calls of `next` on one channel return `s+1, s+2, …` modulo 256, whatever calls on others come between:
the spec's own inference (40_codec R84) from 40_codec R82 and 10_state R20. -/
def Obligations.CallsOfNextCount : Prop :=
  ∀ (calls : List Channel) (c : Channel) (s : State),
    ((nextCalls calls s).filter fun p => p.1 = c).map (fun p => p.2.toNat)
      = (List.range (calls.count c)).map fun k => ((s.seq.get c).toNat + (k + 1)) % 256

/-- `build` of a body that fits: the header `[L[7:0], L[15:8], channel, s]` and the body in TX, the rest of TX kept, the
counter risen, nothing else written (40_codec R85, 30_encoding R57); `txLen` keeps L (log 16). -/
def Obligations.BuildWritesHeaderAndBody : Prop :=
  ∀ (c : Channel) (body : List Byte) (s : State), body.length ≤ 252 →
    ∃ t, build c body s = some (body.length + 4, t)
      ∧ t.txByte 0 = (BitVec.ofNat 16 (body.length + 4)).extractLsb' 0 8
      ∧ t.txByte 1 = (BitVec.ofNat 16 (body.length + 4)).extractLsb' 8 8
      ∧ t.txByte 2 = c.toByte ∧ t.txByte 3 = s.seq.get c + 1#8
      ∧ (∀ i, i < body.length → t.txByte (4 + i) = body.getD i 0#8)
      ∧ (∀ i, body.length + 4 ≤ i → t.txByte i = s.txByte i)
      ∧ t.seq = s.seq.set c (s.seq.get c + 1#8) ∧ t.txLen = body.length + 4
      ∧ t = { s with seq := t.seq, tx := t.tx, txLen := t.txLen }

/-- A body with `len(body) + 4 > 256`: OversizedBody is raised before `next`, and no byte of TX and no sequence counter
changes (40_codec R86). -/
def Obligations.OversizedBodyWritesNothing : Prop :=
  ∀ (c : Channel) (body : List Byte) (p : Phase) (s : State), 256 < body.length + 4 →
    build c body s = none ∧ (txFrame c body p s).lastCond = .oversizedBody
      ∧ (∀ i, (txFrame c body p s).txByte i = s.txByte i) ∧ ∀ d, (txFrame c body p s).seq.get d = s.seq.get d

/-- Framing round trip: what `build` put into TX, received unchanged, parses to the channel, the counter and the body,
with and without the length check; the spec's own inference (40_codec R94) from 40_codec R85, R90 and 30_encoding R56. -/
def Obligations.FramingRoundTrip : Prop :=
  ∀ (c : Channel) (body : List Byte) (s t u : State) (len : Nat) (check : Bool), body.length ≤ 252 →
    build c body s = some (len, t) →
    parse check ((fillRx (t.txBytes len) u).rxBytes len)
      = some { declen := len, channel := c.toByte, sequence := t.seq.get c, body := body }

/-- `parse` (40_codec R90 to R92): no header below four bytes; the declared length checked only under LENGTH_CHECK. -/
def Obligations.ParseValidatesLength : Prop :=
  ∀ (check : Bool) (frame : List Byte),
    (frame.length < 4 → parse check frame = none)
      ∧ (∀ b0 b1 c q body, frame = b0 :: b1 :: c :: q :: body →
          parse check frame =
            if check = true ∧ declaredLength frame ≠ frame.length then none
            else some { declen := declaredLength frame, channel := c, sequence := q, body := body })

/-- Every receive, in every phase that issues one, records its length and its bytes (10_state R33, 20_memory R40, R41), in
the Transport's step and the core's after it (log 22). What the bytes of a failed receive are is free, drawn anew for each
failure: the draw is the model's choice (log 3). -/
def Obligations.ReceiveRecordsLengthAndBytes : Prop :=
  ∀ (s : State) (rest : List ReceiveAnswer), s.pending = none → s.ctl.heldOn = .receive →
    (∀ bytes, s.transport.receives = .ok bytes :: rest → bytes.length ≤ 1024 →
        ∃ t, steps 2 s = .next t ∧ t.lastRxLen.toNat = bytes.length
          ∧ (∀ i, i < bytes.length → t.rxByte i = bytes.getD i 0#8)
          ∧ (∀ i, bytes.length ≤ i → t.rxByte i = s.rxByte i))
      ∧ (∀ e, s.transport.receives = .err e :: rest →
          ∃ t, steps 2 s = .next t ∧ t.lastRxLen = 0#11
            ∧ ∀ i, t.rxByte i = Config.rxDraw (s.rx.epoch + 1) i)

/-! ### Dispatcher (41_dispatch) -/

/-- The advertisement walk accepts exactly the bodies whose bytes after the report id are whole elements (41_dispatch
R101, 30_encoding R61). -/
def Obligations.WalkAcceptsExactlyElementStreams : Prop :=
  ∀ (id : Byte) (stream : List Byte), tlvOk (id :: stream) = true ↔ ElementStream stream

/-- SensorReports frames in HANDLE_ONE (41_dispatch R99): routed by body byte 5, no flag changes. -/
def Obligations.SensorFramesHandled : Prop :=
  ∀ (s : State) (h : RxHeader) (timestamp : BitVec 40) (id : Byte) (rest : List Byte), s.ctl = .handleRx →
    (RowArrived (.sensorRotationVector h timestamp rest) s →
        ∃ t, exec (.sensorRotationVector h timestamp rest) s = .next t
          ∧ FrameHandled (encode (.sensorRotationVector h timestamp rest)) .sensorRotationVector s t
          ∧ t.rc = s.rc ∧ t.piv = s.piv)
      ∧ (RowArrived (.sensorOther h timestamp id rest) s →
          ∃ t, exec (.sensorOther h timestamp id rest) s = .next t
            ∧ FrameHandled (encode (.sensorOther h timestamp id rest)) .sensorOther s t
            ∧ t.rc = s.rc ∧ t.piv = s.piv)

/-- Command-channel frames in HANDLE_ONE (41_dispatch R100, R102): no flag changes. -/
def Obligations.CommandFramesHandled : Prop :=
  ∀ (s : State) (h : RxHeader) (id : Byte) (rest : List Byte), s.ctl = .handleRx →
    (RowArrived (.advertisement h rest) s →
        ∃ t, exec (.advertisement h rest) s = .next t ∧ FrameHandled (encode (.advertisement h rest)) .advertisement s t
          ∧ t.rc = s.rc ∧ t.piv = s.piv)
      ∧ (RowArrived (.commandOther h id rest) s →
          ∃ t, exec (.commandOther h id rest) s = .next t ∧ FrameHandled (encode (.commandOther h id rest)) .commandOther s t
            ∧ t.rc = s.rc ∧ t.piv = s.piv)

/-- Executable-channel frames in HANDLE_ONE (41_dispatch R103, R104): a reset complete sets RC, nothing else does. -/
def Obligations.ExecutableFramesHandled : Prop :=
  ∀ (s : State) (h : RxHeader) (id : Byte) (rest : List Byte), s.ctl = .handleRx →
    (RowArrived (.resetComplete h rest) s →
        ∃ t, exec (.resetComplete h rest) s = .next t ∧ FrameHandled (encode (.resetComplete h rest)) .resetComplete s t
          ∧ t.rc = true ∧ t.piv = s.piv)
      ∧ (RowArrived (.executableOther h id rest) s →
          ∃ t, exec (.executableOther h id rest) s = .next t
            ∧ FrameHandled (encode (.executableOther h id rest)) .executableOther s t
            ∧ t.rc = s.rc ∧ t.piv = s.piv)

/-- HubControl-channel frames in HANDLE_ONE (41_dispatch R105 to R107): a product ID response sets PIV, nothing else
does. -/
def Obligations.HubControlFramesHandled : Prop :=
  ∀ (s : State) (h : RxHeader) (id : Byte) (rest : List Byte), s.ctl = .handleRx →
    (RowArrived (.commandResponse h rest) s →
        ∃ t, exec (.commandResponse h rest) s = .next t
          ∧ FrameHandled (encode (.commandResponse h rest)) .commandResponse s t ∧ t.rc = s.rc ∧ t.piv = s.piv)
      ∧ (RowArrived (.productIdResponse h rest) s →
          ∃ t, exec (.productIdResponse h rest) s = .next t
            ∧ FrameHandled (encode (.productIdResponse h rest)) .productIdResponse s t ∧ t.rc = s.rc ∧ t.piv = true)
      ∧ (RowArrived (.hubControlOther h id rest) s →
          ∃ t, exec (.hubControlOther h id rest) s = .next t
            ∧ FrameHandled (encode (.hubControlOther h id rest)) .hubControlOther s t ∧ t.rc = s.rc ∧ t.piv = s.piv)

/-- Frames on other channels and frames too short for a report id in HANDLE_ONE (41_dispatch R97, R98): handled, count 1,
no flag changes. -/
def Obligations.IgnoredAndShortFramesHandled : Prop :=
  ∀ (s : State) (h : RxHeader) (rest : List Byte), s.ctl = .handleRx →
    (∀ chan : Byte, RowArrived (.ignoredChannel h chan rest) s →
        ∃ t, exec (.ignoredChannel h chan rest) s = .next t
          ∧ FrameHandled (encode (.ignoredChannel h chan rest)) .ignoredChannel s t ∧ t.rc = s.rc ∧ t.piv = s.piv)
      ∧ (∀ chan : BitVec 2, RowArrived (.noReportId h chan rest) s →
          ∃ t, exec (.noReportId h chan rest) s = .next t
            ∧ FrameHandled (encode (.noReportId h chan rest)) .noReportId s t ∧ t.rc = s.rc ∧ t.piv = s.piv)

/-- A corrupt frame in HANDLE_ONE is swallowed (60_exceptions R141, 41_dispatch R109): count 0, route NONE, CorruptFrame in
LAST_COND, no flag and no counter changes. -/
def Obligations.CorruptFrameRoutesNothing : Prop :=
  ∀ (s : State) (frame : List Byte), s.ctl = .handleRx → FrameArrived frame s → frame ≠ [] → frame.length ≤ 1024 →
    CorruptReceived s.lengthCheck frame →
    step s = .next { s with
      pending := none
      lastRxLen := BitVec.ofNat 11 frame.length
      ctl := .idle
      lastCond := .corruptFrame
      lastRoute := .none
      response := some { cond := .ok, value := 0#32, route := .none, info := .absent } }

/-- A HANDLE_ONE that gets no frame (41_dispatch R109): count 0 and route NONE; a receive error is swallowed and recorded. -/
def Obligations.HandleOneWithoutAFrame : Prop :=
  ∀ s : State, s.ctl = .handleRx →
    (s.pending = some (.received 0) →
        step s = .next { s with
          pending := none
          lastRxLen := 0#11
          ctl := .idle
          lastCond := .ok
          lastRoute := .none
          response := some { cond := .ok, value := 0#32, route := .none, info := .absent } })
      ∧ (∀ e, s.pending = some (.answeredErr e) →
          step s = .next { s with
            pending := none
            lastRxLen := 0#11
            ctl := .idle
            lastCond := .transportError
            lastRoute := .none
            response := some { cond := .ok, value := 0#32, route := .none, info := .absent } })

/-- `route` writes nothing but `RC <- 1` and `PIV <- 1`, and routing the same frame again changes nothing: the spec's
own inference (41_dispatch R108) from 41_dispatch R95 and 10_state R24. -/
def Obligations.RoutingIsIdempotent : Prop :=
  ∀ (v : View) (s : State),
    ((route v s).2.2 = s ∨ (route v s).2.2 = { s with rc := true } ∨ (route v s).2.2 = { s with piv := true })
      ∧ route v (route v s).2.2 = route v s
      ∧ ∀ u : State, (route v u).1 = (route v s).1 ∧ (route v u).2.1 = (route v s).2.1

/-- What another command than HANDLE_ONE and verification receives is not dispatched (40_codec R93, 42_init R111, R116,
44_host_ops R131 to R133), whatever its bytes and however few: the step records its length and the command goes on as its
rule says, answering the length in RECEIVE_PACKET and EAT_ONE; nothing else changes. A frame of a row of the table runs as
that row (log 13). -/
def Obligations.FramesElsewhereAreNotDispatched : Prop :=
  ∀ (s : State) (r : Nat), s.pending = some (.received r) → r ≤ 1024 →
    (s.ctl = .initDiscardRx →
        step s = .next { s with pending := none, lastRxLen := BitVec.ofNat 11 r, ctl := .initWaitSettle })
      ∧ (s.ctl = .initDrainRx → r ≠ 0 →
          step s = .next { s with
            pending := none
            lastRxLen := BitVec.ofNat 11 r
            ctl := .initDrainWait
            ctx := { s.ctx with n := s.ctx.n + 1#32 } })
      ∧ (s.ctl = .eatAllRx → r ≠ 0 →
          step s = .next { s with
            pending := none
            lastRxLen := BitVec.ofNat 11 r
            ctl := .eatAllWait
            ctx := { s.ctx with n := s.ctx.n + 1#32 } })
      ∧ (s.ctl = .eatAllRx → r = 0 →
          step s = .next { s with
            pending := none
            lastRxLen := 0#11
            ctl := .idle
            lastCond := .ok
            response := some { cond := .ok, value := s.ctx.n, route := .none, info := .absent } })
      ∧ ((s.ctl = .recvRx ∨ s.ctl = .eatRx) →
          step s = .next { s with
            pending := none
            lastRxLen := BitVec.ofNat 11 r
            ctl := .idle
            lastCond := .ok
            response := some { cond := .ok, value := BitVec.ofNat 32 r, route := .none, info := .absent } })
      ∧ (∀ i : Instr, i.isReceived = true → FrameArrived (encode i) s → s.ctl.heldOn = .receive →
          exec i s = step s ∧ ∃ t, exec i s = .next t)

/-- Product-ID verification (42_init R112): whatever arrives, it succeeds exactly when the byte after the header is 0xF8,
and else carries that byte, or 0x00 where there is none. -/
def Obligations.VerificationReadsOneByte : Prop :=
  ∀ (s : State) (frame : List Byte), (s.ctl = .verifyRx ∨ s.ctl = .initVerifyRx) → FrameArrived frame s →
    frame.length ≤ 1024 →
    (frame[4]? = some 0xF8#8 →
        step s = .next { s with
          pending := none
          lastRxLen := BitVec.ofNat 11 frame.length
          ctl := .idle
          piv := true
          lastCond := .ok
          response := some { cond := .ok, value := 0#32, route := .none, info := .absent } })
      ∧ (frame[4]? ≠ some 0xF8#8 →
          step s = .next { s with
            pending := none
            lastRxLen := BitVec.ofNat 11 frame.length
            ctl := .idle
            lastCond := .invalidChipIdentity
            response := some { cond := .invalidChipIdentity, value := 0#32, route := .none,
                               info := .identity (frame[4]?.getD 0x00#8) } })

/-- A receive error outside INIT's drain and HANDLE_ONE (60_exceptions R137, R138): fatal to verification and
RECEIVE_PACKET, with `e` verbatim; swallowed by INIT step 4, EAT_ONE and EAT_ALL. -/
def Obligations.ReceiveErrors : Prop :=
  ∀ (s : State) (e : TErr), s.pending = some (.answeredErr e) →
    ((s.ctl = .verifyRx ∨ s.ctl = .initVerifyRx ∨ s.ctl = .recvRx) →
        step s = .next { s with
          pending := none
          lastRxLen := 0#11
          ctl := .idle
          lastCond := .transportError
          response := some { cond := .transportError, value := 0#32, route := .none, info := .transport e } })
      ∧ (s.ctl = .initDiscardRx →
          step s = .next { s with pending := none, lastRxLen := 0#11, ctl := .initWaitSettle })
      ∧ (s.ctl = .eatRx →
          step s = .next { s with
            pending := none
            lastRxLen := 0#11
            ctl := .idle
            lastCond := .transportError
            response := some { cond := .ok, value := 0#32, route := .none, info := .absent } })
      ∧ (s.ctl = .eatAllRx →
          step s = .next { s with
            pending := none
            lastRxLen := 0#11
            ctl := .idle
            lastCond := .transportError
            response := some { cond := .ok, value := s.ctx.n, route := .none, info := .absent } })

/-! ### Host commands -/

/-- INIT, RECEIVE_PACKET, HANDLE_ONE, EAT_ONE and EAT_ALL, accepted while idle, issue their first request and write
nothing else (42_init R113, 44_host_ops R131 to R133, 41_dispatch R109; `accepted` is the model's, log 14, 15). -/
def Obligations.WaitingCommandsStart : Prop :=
  ∀ s : State, s.ctl = .idle →
    exec .init s = .next { accepted 0x01#8 0#8 0#16 0#32 [] s with ctl := .initSetup }
      ∧ exec .receivePacket s = .next { accepted 0x07#8 0#8 0#16 0#32 [] s with ctl := .recvRx }
      ∧ exec .handleOne s = .next { accepted 0x08#8 0#8 0#16 0#32 [] s with ctl := .handleRx }
      ∧ exec .eatOne s = .next { accepted 0x09#8 0#8 0#16 0#32 [] s with ctl := .eatRx }
      ∧ exec .eatAll s = .next { accepted 0x0A#8 0#8 0#16 0#32 [] s with
          ctl := .eatAllRx
          ctx := { op := 0x0A#8, a8 := 0#8, a16 := 0#16, intervalMs := 0#32, body := [], n := 0#32 } }

/-- SOFT_RESET sends `[0x05, 0x00, 0x01, s, 0x01]` (44_host_ops R129, 30_encoding R64) and changes no flag
(`accepted` is the model's, log 14, 15). -/
def Obligations.SoftResetSendsItsFrame : Prop :=
  ∀ s : State, s.ctl = .idle → ∃ t, exec .softReset s = .next t
    ∧ SendIssued .executable [0x05#8, 0x00#8, 0x01#8, s.seq.executable + 1#8, 0x01#8] .softResetTx
        (accepted 0x02#8 0#8 0#16 0#32 [] s) t

/-- VERIFY_PRODUCT_ID sends `[0x06, 0x00, 0x02, s, 0xF9, 0x00]` (42_init R112, R122, 30_encoding R65;
`accepted` is the model's, log 14, 15). -/
def Obligations.VerifyProductIdSendsItsRequest : Prop :=
  ∀ s : State, s.ctl = .idle → ∃ t, exec .verifyProductId s = .next t
    ∧ SendIssued .hubControl [0x06#8, 0x00#8, 0x02#8, s.seq.hubControl + 1#8, 0xF9#8, 0x00#8] .verifyTx
        (accepted 0x03#8 0#8 0#16 0#32 [] s) t

/-- ENABLE_REPORT and ENABLE_ROTATION_VECTOR send the 21-byte set-feature frame of 43_enable R124 with the interval in
microseconds modulo 2^32 (R123, R125, R126; `accepted` is the model's, log 14, 15). -/
def Obligations.EnablesSendSetFeature : Prop :=
  ∀ (s : State) (id : Byte) (ms us : Word), s.ctl = .idle → us.toNat = ms.toNat * 1000 % 4294967296 →
    (∃ t, exec (.enableReport id ms) s = .next t
        ∧ SendIssued .hubControl
            ([0x15#8, 0x00#8, 0x02#8, s.seq.hubControl + 1#8, 0xFD#8, id, 0x00#8, 0x00#8, 0x00#8,
              us.extractLsb' 0 8, us.extractLsb' 8 8, us.extractLsb' 16 8, us.extractLsb' 24 8]
              ++ List.replicate 8 0x00#8)
            .enableTx (accepted 0x04#8 id 0#16 ms [] s) t)
      ∧ (∃ t, exec (.enableRotationVector ms) s = .next t
        ∧ SendIssued .hubControl
            ([0x15#8, 0x00#8, 0x02#8, s.seq.hubControl + 1#8, 0xFD#8, 0x05#8, 0x00#8, 0x00#8, 0x00#8,
              us.extractLsb' 0 8, us.extractLsb' 8 8, us.extractLsb' 16 8, us.extractLsb' 24 8]
              ++ List.replicate 8 0x00#8)
            .enableTx (accepted 0x05#8 0#8 0#16 ms [] s) t)

/-- SEND_FRAME sends the header and the body, verbatim, on the channel it names; a body of more than 252 bytes ends it with
OversizedBody, and nothing is built (44_host_ops R130; `accepted` is the model's, log 14, 15). -/
def Obligations.SendFrameSendsTheBody : Prop :=
  ∀ (s : State) (c : Channel) (body : List Byte), s.ctl = .idle →
    (body.length ≤ 252 →
        ∃ t, exec (.sendFrame c body) s = .next t
          ∧ SendIssued c
              ([(BitVec.ofNat 16 (body.length + 4)).extractLsb' 0 8,
                (BitVec.ofNat 16 (body.length + 4)).extractLsb' 8 8, c.toByte, s.seq.get c + 1#8] ++ body)
              .sendTx (accepted 0x06#8 c.toByte (BitVec.ofNat 16 body.length) 0#32 body s) t)
      ∧ (252 < body.length →
          exec (.sendFrame c body) s = .next { accepted 0x06#8 c.toByte (BitVec.ofNat 16 body.length) 0#32 body s with
            lastCond := .oversizedBody
            response := some { cond := .oversizedBody, value := 0#32, route := .none, info := .absent } })

/-- The interval conversion (43_enable R123): exact up to 4294967 ms, then modulo 2^32; 4294968 gives 704. -/
def Obligations.IntervalConversion : Prop :=
  ∀ ms : Word,
    (intervalUs ms).toNat = ms.toNat * 1000 % 4294967296
      ∧ (ms.toNat ≤ 4294967 → (intervalUs ms).toNat = ms.toNat * 1000)
      ∧ (4294968 ≤ ms.toNat → (intervalUs ms).toNat < ms.toNat * 1000)
      ∧ intervalUs 4294968#32 = 704#32

/-- READ_RX, READ_SEQ and READ_STATUS answer at once and write nothing else (44_host_ops R134 to R136; `accepted`
is the model's, log 14, 15). -/
def Obligations.ReadoutCommandsAnswer : Prop :=
  ∀ s : State, s.ctl = .idle →
    (∀ off : BitVec 10,
        exec (.readRx off) s = .next { accepted 0x0B#8 0#8 (off.setWidth 16) 0#32 [] s with
          response := some
            { cond := .ok, value := (s.rxByte off.toNat).setWidth 32, route := .none, info := .absent } })
      ∧ (∀ c : Channel,
          exec (.readSeq c) s = .next { accepted 0x0C#8 c.toByte 0#16 0#32 [] s with
            response := some { cond := .ok, value := (s.seq.get c).setWidth 32, route := .none, info := .absent } })
      ∧ exec .readStatus s = .next { accepted 0x0D#8 0#8 0#16 0#32 [] s with
          response := some { cond := .ok, value := statusWord s, route := .none, info := .absent } }

/-- The fields of the STATUS word, the reserved ones among them (10_state R34). -/
def Obligations.StatusWordFields : Prop :=
  ∀ s : State,
    (statusWord s).getLsbD 0 = s.rc ∧ (statusWord s).getLsbD 1 = s.piv ∧ (statusWord s).extractLsb' 2 2 = 0#2
      ∧ (statusWord s).extractLsb' 4 4 = s.lastRoute.code ∧ (statusWord s).extractLsb' 8 3 = s.lastCond.code
      ∧ (statusWord s).extractLsb' 11 5 = 0#5 ∧ (statusWord s).extractLsb' 16 11 = s.lastRxLen
      ∧ (statusWord s).extractLsb' 27 5 = 0#5

/-- The rows of sent frames complete: the Transport has answered the outstanding frame `Ok`, and the command goes on or ends
as its phase says (40_codec R88, 42_init R113, R122, 43_enable R125, 44_host_ops R129, R130). When a row runs is the model's
choice (log 13). -/
def Obligations.SentFramesComplete : Prop :=
  ∀ (s : State) (i : Instr), i.isSent = true → s.txBytes s.txLen = encode i → s.pending = some .answeredOk →
    (s.ctl = .initResetTx → exec i s = .next { s with pending := none, ctl := .initWaitReset })
      ∧ (s.ctl = .initVerifyTx → exec i s = .next { s with pending := none, ctl := .initVerifyRx })
      ∧ (s.ctl = .verifyTx → exec i s = .next { s with pending := none, ctl := .verifyRx })
      ∧ ((s.ctl = .softResetTx ∨ s.ctl = .enableTx) →
          exec i s = .next { s with
            pending := none
            ctl := .idle
            lastCond := .ok
            response := some { cond := .ok, value := 0#32, route := .none, info := .absent } })
      ∧ (s.ctl = .sendTx →
          exec i s = .next { s with
            pending := none
            ctl := .idle
            lastCond := .ok
            response := some { cond := .ok, value := BitVec.ofNat 32 s.txLen, route := .none, info := .absent } })

/-- A send that fails ends its command with the error verbatim; counters and TX keep what `build` wrote (40_codec R87,
60_exceptions R138, R144). -/
def Obligations.SendFailureKeepsTheCount : Prop :=
  ∀ (s : State) (i : Instr) (e : TErr), i.isSent = true → s.ctl.heldOn = .send → s.txBytes s.txLen = encode i →
    s.pending = some (.answeredErr e) →
    exec i s = .next { s with
      pending := none
      ctl := .idle
      lastCond := .transportError
      response := some { cond := .transportError, value := 0#32, route := .none, info := .transport e } }

/-- Events outside the contracts have no move (30_encoding R71, 60_exceptions R150, 20_memory R40; the faults are the
model's choice, log 10 to 12). -/
def Obligations.EventsWithoutAMove : Prop :=
  ∀ (s : State) (i : Instr),
    (i.isCommand = true → s.ctl ≠ .idle → exec i s = .fault .commandWhileBusy)
      ∧ (i.isSent = true →
          ¬ (s.ctl.heldOn = .send ∧ s.txBytes s.txLen = encode i
              ∧ (s.pending = some .answeredOk ∨ ∃ e, s.pending = some (.answeredErr e))) →
          exec i s = .fault .noSendOutstanding)
      ∧ (i.isReceived = true → ¬ (s.ctl.heldOn = .receive ∧ FrameArrived (encode i) s) →
          exec i s = .fault .noReceiveOutstanding)
      ∧ (∀ bytes rest, s.pending = none → s.ctl.heldOn = .receive → s.transport.receives = .ok bytes :: rest →
          1024 < bytes.length → step s = .fault .receiveOverrun)
      ∧ (s.pending = some .answeredOk → s.ctl.heldOn ≠ .setup → s.ctl.heldOn ≠ .send →
          step s = .fault .noRequestOutstanding)
      ∧ (s.pending = some .waited → (∀ units, s.ctl.heldOn ≠ .wait units) → step s = .fault .noRequestOutstanding)

/-! ### Whole commands -/

/-- The phases of INIT, each with every answer of its agent, its action and its next phase (42_init R113 to R116, R111, R112).
The table itself (R121) is the spec's own inference from R113, R111 and R112. -/
def Obligations.InitPhaseTable : Prop :=
  ∀ (s : State) (r : Nat) (e : TErr), r ≤ 1024 →
    (s.ctl = .initSetup → s.pending = some .answeredOk →
        ∃ t, step s = .next t
          ∧ SendIssued .executable [0x05#8, 0x00#8, 0x01#8, s.seq.executable + 1#8, 0x01#8] .initResetTx
              { s with pending := none } t)
      ∧ ((s.ctl = .initSetup ∨ s.ctl = .initResetTx ∨ s.ctl = .initVerifyTx) → s.pending = some (.answeredErr e) →
          step s = .next { s with
            pending := none
            ctl := .idle
            lastCond := .transportError
            response := some { cond := .transportError, value := 0#32, route := .none, info := .transport e } })
      ∧ (s.ctl = .initResetTx → s.pending = some .answeredOk →
          step s = .next { s with pending := none, ctl := .initWaitReset })
      ∧ (s.ctl = .initWaitReset → s.pending = some .waited →
          step s = .next { s with pending := none, ctl := .initDiscardRx })
      ∧ (s.ctl = .initDiscardRx → s.pending = some (.received r) →
          step s = .next { s with pending := none, lastRxLen := BitVec.ofNat 11 r, ctl := .initWaitSettle })
      ∧ (s.ctl = .initDiscardRx → s.pending = some (.answeredErr e) →
          step s = .next { s with pending := none, lastRxLen := 0#11, ctl := .initWaitSettle })
      ∧ (s.ctl = .initWaitSettle → s.pending = some .waited →
          step s = .next { s with pending := none, ctl := .initDrainRx, ctx := { s.ctx with n := 0#32 } })
      ∧ (s.ctl = .initDrainRx → s.pending = some (.received r) → r ≠ 0 →
          step s = .next { s with
            pending := none
            lastRxLen := BitVec.ofNat 11 r
            ctl := .initDrainWait
            ctx := { s.ctx with n := s.ctx.n + 1#32 } })
      ∧ (s.ctl = .initDrainRx → (s.pending = some (.received 0) ∨ s.pending = some (.answeredErr e)) →
          ∃ t, step s = .next t
            ∧ SendIssued .hubControl [0x06#8, 0x00#8, 0x02#8, s.seq.hubControl + 1#8, 0xF9#8, 0x00#8] .initVerifyTx
                { s with pending := none, lastRxLen := 0#11 } t)
      ∧ (s.ctl = .initDrainWait → s.pending = some .waited →
          step s = .next { s with pending := none, ctl := .initDrainRx })
      ∧ (s.ctl = .initVerifyTx → s.pending = some .answeredOk →
          step s = .next { s with pending := none, ctl := .initVerifyRx })
      ∧ (s.ctl = .initVerifyRx → s.pending = some (.received r) → 4 < r → s.rxByte 4 = 0xF8#8 →
          step s = .next { s with
            pending := none
            lastRxLen := BitVec.ofNat 11 r
            ctl := .idle
            piv := true
            lastCond := .ok
            response := some { cond := .ok, value := 0#32, route := .none, info := .absent } })
      ∧ (s.ctl = .initVerifyRx → s.pending = some (.received r) → ¬ (4 < r ∧ s.rxByte 4 = 0xF8#8) →
          step s = .next { s with
            pending := none
            lastRxLen := BitVec.ofNat 11 r
            ctl := .idle
            lastCond := .invalidChipIdentity
            response := some { cond := .invalidChipIdentity, value := 0#32, route := .none,
                               info := .identity (if 4 < r then s.rxByte 4 else 0x00#8) } })
      ∧ (s.ctl = .initVerifyRx → s.pending = some (.answeredErr e) →
          step s = .next { s with
            pending := none
            lastRxLen := 0#11
            ctl := .idle
            lastCond := .transportError
            response := some { cond := .transportError, value := 0#32, route := .none, info := .transport e } })

/-- The whole handshake (42_init R113): from any idle state, with a Transport that answers every request and drains `k`
frames, INIT ends after `18 + 4k` steps, half of them the core's; it succeeds exactly when the byte after the header of the
last frame is 0xF8. RC is never touched, the two counters have risen by one, PIV is set only on success. One step an answer
is the model's granularity (log 22). -/
def Obligations.InitHandshake : Prop :=
  ∀ (s : State) (hostRest : List HostEvent) (su se : List StatusAnswer) (rr : List ReceiveAnswer) (k : Nat)
    (discarded ending : ReceiveAnswer) (frames : List (List Byte)) (last : List Byte),
    s.ctl = .idle → s.pending = none → s.host = .present [0x01#8, 0x00#8, 0x00#8, 0x00#8] :: hostRest →
    ((∃ f, discarded = .ok f ∧ f.length ≤ 1024) ∨ ∃ e, discarded = .err e) →
    (∀ f ∈ frames, f ≠ [] ∧ f.length ≤ 1024) → (ending = .ok [] ∨ ∃ e, ending = .err e) → last.length ≤ 1024 →
    s.transport = { setups := .ok :: su, sends := .ok :: .ok :: se,
                    receives := discarded :: (frames.map .ok ++ ending :: .ok last :: rr), asked := k } →
    ∃ t, steps (18 + 4 * frames.length) s = .next t ∧ t.ctl = .idle ∧ t.pending = none ∧ t.rc = s.rc
      ∧ t.seq.get .executable = s.seq.get .executable + 1#8 ∧ t.seq.get .hubControl = s.seq.get .hubControl + 1#8
      ∧ (∀ c, c ≠ .executable → c ≠ .hubControl → t.seq.get c = s.seq.get c)
      ∧ t.lastRoute = s.lastRoute ∧ t.lastRxLen.toNat = last.length ∧ t.ctx.n = BitVec.ofNat 32 frames.length
      ∧ t.host = hostRest ∧ t.transport = { setups := su, sends := se, receives := rr, asked := k }
      ∧ (last[4]? = some 0xF8#8 → t.piv = true ∧ t.lastCond = .ok
          ∧ t.response = some { cond := .ok, value := 0#32, route := .none, info := .absent })
      ∧ (last[4]? ≠ some 0xF8#8 → t.piv = s.piv ∧ t.lastCond = .invalidChipIdentity
          ∧ t.response = some { cond := .invalidChipIdentity, value := 0#32, route := .none,
                                info := .identity (last[4]?.getD 0x00#8) })

/-- When INIT succeeds from the reset state, whatever the Transport answers and however long it takes: the spec's own
inference (70_reset R160) from 42_init R113 and 70_reset R155. -/
def Obligations.InitFromResetLeaves : Prop :=
  ∀ (transport : Transport) (n : Nat) (t : State) (r : Response),
    steps n { State.reset with host := [.present [0x01#8, 0x00#8, 0x00#8, 0x00#8]], transport := transport } = .next t →
    t.response = some r → r.cond = .ok →
    t.seq.get .executable = 1#8 ∧ t.seq.get .hubControl = 1#8
      ∧ (∀ c, c ≠ .executable → c ≠ .hubControl → t.seq.get c = 0#8)
      ∧ t.piv = true ∧ t.rc = false ∧ t.ctl = .idle ∧ t.lastCond = .ok

/-- The drain of EAT_ALL (42_init R111, 44_host_ops R133): `k` frames and an empty or failed receive take `4 + 4k` steps,
half of them the core's, and answer `k`; no frame is dispatched (one step an answer: log 22). -/
def Obligations.EatAllDrains : Prop :=
  ∀ (s : State) (hostRest : List HostEvent) (rr : List ReceiveAnswer) (ending : ReceiveAnswer)
    (frames : List (List Byte)),
    s.ctl = .idle → s.pending = none → s.host = .present [0x0A#8, 0x00#8, 0x00#8, 0x00#8] :: hostRest →
    (∀ f ∈ frames, f ≠ [] ∧ f.length ≤ 1024) → (ending = .ok [] ∨ ∃ e, ending = .err e) →
    s.transport.receives = frames.map .ok ++ ending :: rr →
    ∃ t, steps (4 + 4 * frames.length) s = .next t ∧ t.ctl = .idle ∧ t.pending = none
      ∧ t.response = some
          { cond := .ok, value := BitVec.ofNat 32 frames.length, route := .none, info := .absent }
      ∧ (ending = .ok [] → t.lastCond = .ok) ∧ (ending ≠ .ok [] → t.lastCond = .transportError)
      ∧ t.lastRxLen = 0#11 ∧ t.lastRoute = s.lastRoute ∧ t.rc = s.rc ∧ t.piv = s.piv ∧ t.seq = s.seq ∧ t.tx = s.tx
      ∧ t.txLen = s.txLen ∧ t.host = hostRest ∧ t.transport = { s.transport with receives := rr }

/-! ### Invariants -/

/-- Every step keeps both buffers in canonical form, within their capacities (20_memory R37, R48). -/
def Obligations.StepKeepsBuffersCanonical : Prop :=
  ∀ s t : State, Memory.wf s = true → step s = .next t → Memory.wf t = true

/-- Every step keeps the outstanding send the frame of the command in progress (20_memory R42). -/
def Obligations.StepKeepsOutstandingFrame : Prop :=
  ∀ s t : State, OutstandingFrame s → step s = .next t → OutstandingFrame t

/-- Every step keeps LAST_RX_LEN at most 1024 (10_state R16, R33). -/
def Obligations.StepKeepsRxLenInRange : Prop :=
  ∀ s t : State, RxLenInRange s → step s = .next t → RxLenInRange t

/-- No step produces condition code 3 (60_exceptions R140). -/
def Obligations.StepNeverProducesFirmwareCondition : Prop :=
  ∀ s t : State, NoFirmwareCondition s → step s = .next t → NoFirmwareCondition t

/-- No response stands at the port while a command is in progress (30_encoding R71; the port is the model's, log 15). -/
def Obligations.StepKeepsPortSilentWhileBusy : Prop :=
  ∀ s t : State, SilentWhileBusy s → step s = .next t → SilentWhileBusy t

/-- The context holds the command that the phase belongs to (10_state R29, R30). -/
def Obligations.StepKeepsContextFitsPhase : Prop :=
  ∀ s t : State, ContextFitsPhase s → step s = .next t → ContextFitsPhase t

/-- What the core has been handed always answers what it is held on (60_exceptions R150, 30_encoding R71; the event is the
model's, log 22), and where it does, the only faults are those of a Host or a Transport that leaves its contract (30_encoding
R74, 20_memory R40; log 9, 11). -/
def Obligations.StepKeepsEventFitsPhase : Prop :=
  ∀ s : State, EventFitsPhase s →
    (∀ t, step s = .next t → EventFitsPhase t)
      ∧ ∀ r, step s = .fault r → (r = .commandTransfer ∨ r = .receiveOverrun) ∧ s.pending = none

/-- The reset state meets every invariant. -/
def Obligations.ResetMeetsTheInvariants : Prop :=
  Memory.wf State.reset = true ∧ OutstandingFrame State.reset ∧ RxLenInRange State.reset
    ∧ NoFirmwareCondition State.reset ∧ SilentWhileBusy State.reset ∧ ContextFitsPhase State.reset
    ∧ EventFitsPhase State.reset

/-- RC and PIV are monotonic (10_state R24): only a hardware reset returns one of them to 0. -/
def Obligations.FlagsAreMonotonic : Prop :=
  ∀ s t : State, step s = .next t → ¬ ResetIsNext s → (s.rc = true → t.rc = true) ∧ (s.piv = true → t.piv = true)

/-- What sets a flag (10_state R22, R23): RC, a HANDLE_ONE that receives channel 1 with report id 0x01; PIV, a HANDLE_ONE
that receives channel 2 with report id 0xF8, or a verification whose frame has 0xF8 after the header. -/
def Obligations.FlagsHaveTheirCauses : Prop :=
  ∀ s t : State, step s = .next t →
    (s.rc = false → t.rc = true →
        s.ctl = .handleRx ∧ 4 < t.lastRxLen.toNat ∧ t.rxByte 2 = 0x01#8 ∧ t.rxByte 4 = 0x01#8)
      ∧ (s.piv = false → t.piv = true →
          4 < t.lastRxLen.toNat ∧ t.rxByte 4 = 0xF8#8
            ∧ ((s.ctl = .handleRx ∧ t.rxByte 2 = 0x02#8) ∨ s.ctl = .verifyRx ∨ s.ctl = .initVerifyRx))

/-- A sequence counter changes only when a frame that carries its new value is handed to the Transport (10_state R19,
40_codec R82, R88), or in a hardware reset. -/
def Obligations.CounterRisesOnlyWithAFrame : Prop :=
  ∀ s t : State, step s = .next t → ¬ ResetIsNext s → t.seq ≠ s.seq →
    ∃ c frame, t.seq = s.seq.set c (s.seq.get c + 1#8) ∧ t.request = some (.send frame)
      ∧ frame[2]? = some c.toByte ∧ frame[3]? = some (t.seq.get c)

/-- RX changes only in a step of the Transport, answering a receive, and TX only in a step of the core that builds a frame
(10_state R25, R26, 20_memory R38), or in a hardware reset. -/
def Obligations.BuffersHaveOneWriter : Prop :=
  ∀ s t : State, step s = .next t → ¬ ResetIsNext s →
    (t.rx ≠ s.rx → s.turn = .transport ∧ s.ctl.heldOn = .receive)
      ∧ (t.tx ≠ s.tx → s.turn = .core ∧ t.ctl.heldOn = .send ∧ t.seq ≠ s.seq)
end

