-- ==== Sys2Proof/Laws/State.lean ====
section
/-!
SUPPORT. One lemma per field per update of the state, so that no later proof unfolds a record update.
-/

namespace Sys2Proof.Machine

section
variable (s : State) (v : SeqCounters)
@[simp] theorem State.setSeq_seq : (s.setSeq v).seq = v := rfl
@[simp] theorem State.setSeq_rc : (s.setSeq v).rc = s.rc := rfl
@[simp] theorem State.setSeq_piv : (s.setSeq v).piv = s.piv := rfl
@[simp] theorem State.setSeq_rx : (s.setSeq v).rx = s.rx := rfl
@[simp] theorem State.setSeq_tx : (s.setSeq v).tx = s.tx := rfl
@[simp] theorem State.setSeq_ctl : (s.setSeq v).ctl = s.ctl := rfl
@[simp] theorem State.setSeq_ctx : (s.setSeq v).ctx = s.ctx := rfl
@[simp] theorem State.setSeq_lastCond : (s.setSeq v).lastCond = s.lastCond := rfl
@[simp] theorem State.setSeq_lastRoute : (s.setSeq v).lastRoute = s.lastRoute := rfl
@[simp] theorem State.setSeq_lastRxLen : (s.setSeq v).lastRxLen = s.lastRxLen := rfl
@[simp] theorem State.setSeq_txLen : (s.setSeq v).txLen = s.txLen := rfl
@[simp] theorem State.setSeq_response : (s.setSeq v).response = s.response := rfl
@[simp] theorem State.setSeq_pending : (s.setSeq v).pending = s.pending := rfl
@[simp] theorem State.setSeq_lengthCheck : (s.setSeq v).lengthCheck = s.lengthCheck := rfl
@[simp] theorem State.setSeq_host : (s.setSeq v).host = s.host := rfl
@[simp] theorem State.setSeq_transport : (s.setSeq v).transport = s.transport := rfl
end

section
variable (s : State) (v : Bool)
@[simp] theorem State.setRc_seq : (s.setRc v).seq = s.seq := rfl
@[simp] theorem State.setRc_rc : (s.setRc v).rc = v := rfl
@[simp] theorem State.setRc_piv : (s.setRc v).piv = s.piv := rfl
@[simp] theorem State.setRc_rx : (s.setRc v).rx = s.rx := rfl
@[simp] theorem State.setRc_tx : (s.setRc v).tx = s.tx := rfl
@[simp] theorem State.setRc_ctl : (s.setRc v).ctl = s.ctl := rfl
@[simp] theorem State.setRc_ctx : (s.setRc v).ctx = s.ctx := rfl
@[simp] theorem State.setRc_lastCond : (s.setRc v).lastCond = s.lastCond := rfl
@[simp] theorem State.setRc_lastRoute : (s.setRc v).lastRoute = s.lastRoute := rfl
@[simp] theorem State.setRc_lastRxLen : (s.setRc v).lastRxLen = s.lastRxLen := rfl
@[simp] theorem State.setRc_txLen : (s.setRc v).txLen = s.txLen := rfl
@[simp] theorem State.setRc_response : (s.setRc v).response = s.response := rfl
@[simp] theorem State.setRc_pending : (s.setRc v).pending = s.pending := rfl
@[simp] theorem State.setRc_lengthCheck : (s.setRc v).lengthCheck = s.lengthCheck := rfl
@[simp] theorem State.setRc_host : (s.setRc v).host = s.host := rfl
@[simp] theorem State.setRc_transport : (s.setRc v).transport = s.transport := rfl
end

section
variable (s : State) (v : Bool)
@[simp] theorem State.setPiv_seq : (s.setPiv v).seq = s.seq := rfl
@[simp] theorem State.setPiv_rc : (s.setPiv v).rc = s.rc := rfl
@[simp] theorem State.setPiv_piv : (s.setPiv v).piv = v := rfl
@[simp] theorem State.setPiv_rx : (s.setPiv v).rx = s.rx := rfl
@[simp] theorem State.setPiv_tx : (s.setPiv v).tx = s.tx := rfl
@[simp] theorem State.setPiv_ctl : (s.setPiv v).ctl = s.ctl := rfl
@[simp] theorem State.setPiv_ctx : (s.setPiv v).ctx = s.ctx := rfl
@[simp] theorem State.setPiv_lastCond : (s.setPiv v).lastCond = s.lastCond := rfl
@[simp] theorem State.setPiv_lastRoute : (s.setPiv v).lastRoute = s.lastRoute := rfl
@[simp] theorem State.setPiv_lastRxLen : (s.setPiv v).lastRxLen = s.lastRxLen := rfl
@[simp] theorem State.setPiv_txLen : (s.setPiv v).txLen = s.txLen := rfl
@[simp] theorem State.setPiv_response : (s.setPiv v).response = s.response := rfl
@[simp] theorem State.setPiv_pending : (s.setPiv v).pending = s.pending := rfl
@[simp] theorem State.setPiv_lengthCheck : (s.setPiv v).lengthCheck = s.lengthCheck := rfl
@[simp] theorem State.setPiv_host : (s.setPiv v).host = s.host := rfl
@[simp] theorem State.setPiv_transport : (s.setPiv v).transport = s.transport := rfl
end

section
variable (s : State) (v : Buffer)
@[simp] theorem State.setRx_seq : (s.setRx v).seq = s.seq := rfl
@[simp] theorem State.setRx_rc : (s.setRx v).rc = s.rc := rfl
@[simp] theorem State.setRx_piv : (s.setRx v).piv = s.piv := rfl
@[simp] theorem State.setRx_rx : (s.setRx v).rx = v := rfl
@[simp] theorem State.setRx_tx : (s.setRx v).tx = s.tx := rfl
@[simp] theorem State.setRx_ctl : (s.setRx v).ctl = s.ctl := rfl
@[simp] theorem State.setRx_ctx : (s.setRx v).ctx = s.ctx := rfl
@[simp] theorem State.setRx_lastCond : (s.setRx v).lastCond = s.lastCond := rfl
@[simp] theorem State.setRx_lastRoute : (s.setRx v).lastRoute = s.lastRoute := rfl
@[simp] theorem State.setRx_lastRxLen : (s.setRx v).lastRxLen = s.lastRxLen := rfl
@[simp] theorem State.setRx_txLen : (s.setRx v).txLen = s.txLen := rfl
@[simp] theorem State.setRx_response : (s.setRx v).response = s.response := rfl
@[simp] theorem State.setRx_pending : (s.setRx v).pending = s.pending := rfl
@[simp] theorem State.setRx_lengthCheck : (s.setRx v).lengthCheck = s.lengthCheck := rfl
@[simp] theorem State.setRx_host : (s.setRx v).host = s.host := rfl
@[simp] theorem State.setRx_transport : (s.setRx v).transport = s.transport := rfl
end

section
variable (s : State) (v : Buffer)
@[simp] theorem State.setTx_seq : (s.setTx v).seq = s.seq := rfl
@[simp] theorem State.setTx_rc : (s.setTx v).rc = s.rc := rfl
@[simp] theorem State.setTx_piv : (s.setTx v).piv = s.piv := rfl
@[simp] theorem State.setTx_rx : (s.setTx v).rx = s.rx := rfl
@[simp] theorem State.setTx_tx : (s.setTx v).tx = v := rfl
@[simp] theorem State.setTx_ctl : (s.setTx v).ctl = s.ctl := rfl
@[simp] theorem State.setTx_ctx : (s.setTx v).ctx = s.ctx := rfl
@[simp] theorem State.setTx_lastCond : (s.setTx v).lastCond = s.lastCond := rfl
@[simp] theorem State.setTx_lastRoute : (s.setTx v).lastRoute = s.lastRoute := rfl
@[simp] theorem State.setTx_lastRxLen : (s.setTx v).lastRxLen = s.lastRxLen := rfl
@[simp] theorem State.setTx_txLen : (s.setTx v).txLen = s.txLen := rfl
@[simp] theorem State.setTx_response : (s.setTx v).response = s.response := rfl
@[simp] theorem State.setTx_pending : (s.setTx v).pending = s.pending := rfl
@[simp] theorem State.setTx_lengthCheck : (s.setTx v).lengthCheck = s.lengthCheck := rfl
@[simp] theorem State.setTx_host : (s.setTx v).host = s.host := rfl
@[simp] theorem State.setTx_transport : (s.setTx v).transport = s.transport := rfl
end

section
variable (s : State) (v : Phase)
@[simp] theorem State.setCtl_seq : (s.setCtl v).seq = s.seq := rfl
@[simp] theorem State.setCtl_rc : (s.setCtl v).rc = s.rc := rfl
@[simp] theorem State.setCtl_piv : (s.setCtl v).piv = s.piv := rfl
@[simp] theorem State.setCtl_rx : (s.setCtl v).rx = s.rx := rfl
@[simp] theorem State.setCtl_tx : (s.setCtl v).tx = s.tx := rfl
@[simp] theorem State.setCtl_ctl : (s.setCtl v).ctl = v := rfl
@[simp] theorem State.setCtl_ctx : (s.setCtl v).ctx = s.ctx := rfl
@[simp] theorem State.setCtl_lastCond : (s.setCtl v).lastCond = s.lastCond := rfl
@[simp] theorem State.setCtl_lastRoute : (s.setCtl v).lastRoute = s.lastRoute := rfl
@[simp] theorem State.setCtl_lastRxLen : (s.setCtl v).lastRxLen = s.lastRxLen := rfl
@[simp] theorem State.setCtl_txLen : (s.setCtl v).txLen = s.txLen := rfl
@[simp] theorem State.setCtl_response : (s.setCtl v).response = s.response := rfl
@[simp] theorem State.setCtl_pending : (s.setCtl v).pending = s.pending := rfl
@[simp] theorem State.setCtl_lengthCheck : (s.setCtl v).lengthCheck = s.lengthCheck := rfl
@[simp] theorem State.setCtl_host : (s.setCtl v).host = s.host := rfl
@[simp] theorem State.setCtl_transport : (s.setCtl v).transport = s.transport := rfl
end

section
variable (s : State) (v : Ctx)
@[simp] theorem State.setCtx_seq : (s.setCtx v).seq = s.seq := rfl
@[simp] theorem State.setCtx_rc : (s.setCtx v).rc = s.rc := rfl
@[simp] theorem State.setCtx_piv : (s.setCtx v).piv = s.piv := rfl
@[simp] theorem State.setCtx_rx : (s.setCtx v).rx = s.rx := rfl
@[simp] theorem State.setCtx_tx : (s.setCtx v).tx = s.tx := rfl
@[simp] theorem State.setCtx_ctl : (s.setCtx v).ctl = s.ctl := rfl
@[simp] theorem State.setCtx_ctx : (s.setCtx v).ctx = v := rfl
@[simp] theorem State.setCtx_lastCond : (s.setCtx v).lastCond = s.lastCond := rfl
@[simp] theorem State.setCtx_lastRoute : (s.setCtx v).lastRoute = s.lastRoute := rfl
@[simp] theorem State.setCtx_lastRxLen : (s.setCtx v).lastRxLen = s.lastRxLen := rfl
@[simp] theorem State.setCtx_txLen : (s.setCtx v).txLen = s.txLen := rfl
@[simp] theorem State.setCtx_response : (s.setCtx v).response = s.response := rfl
@[simp] theorem State.setCtx_pending : (s.setCtx v).pending = s.pending := rfl
@[simp] theorem State.setCtx_lengthCheck : (s.setCtx v).lengthCheck = s.lengthCheck := rfl
@[simp] theorem State.setCtx_host : (s.setCtx v).host = s.host := rfl
@[simp] theorem State.setCtx_transport : (s.setCtx v).transport = s.transport := rfl
end

section
variable (s : State) (v : Cond)
@[simp] theorem State.setLastCond_seq : (s.setLastCond v).seq = s.seq := rfl
@[simp] theorem State.setLastCond_rc : (s.setLastCond v).rc = s.rc := rfl
@[simp] theorem State.setLastCond_piv : (s.setLastCond v).piv = s.piv := rfl
@[simp] theorem State.setLastCond_rx : (s.setLastCond v).rx = s.rx := rfl
@[simp] theorem State.setLastCond_tx : (s.setLastCond v).tx = s.tx := rfl
@[simp] theorem State.setLastCond_ctl : (s.setLastCond v).ctl = s.ctl := rfl
@[simp] theorem State.setLastCond_ctx : (s.setLastCond v).ctx = s.ctx := rfl
@[simp] theorem State.setLastCond_lastCond : (s.setLastCond v).lastCond = v := rfl
@[simp] theorem State.setLastCond_lastRoute : (s.setLastCond v).lastRoute = s.lastRoute := rfl
@[simp] theorem State.setLastCond_lastRxLen : (s.setLastCond v).lastRxLen = s.lastRxLen := rfl
@[simp] theorem State.setLastCond_txLen : (s.setLastCond v).txLen = s.txLen := rfl
@[simp] theorem State.setLastCond_response : (s.setLastCond v).response = s.response := rfl
@[simp] theorem State.setLastCond_pending : (s.setLastCond v).pending = s.pending := rfl
@[simp] theorem State.setLastCond_lengthCheck : (s.setLastCond v).lengthCheck = s.lengthCheck := rfl
@[simp] theorem State.setLastCond_host : (s.setLastCond v).host = s.host := rfl
@[simp] theorem State.setLastCond_transport : (s.setLastCond v).transport = s.transport := rfl
end

section
variable (s : State) (v : Route)
@[simp] theorem State.setLastRoute_seq : (s.setLastRoute v).seq = s.seq := rfl
@[simp] theorem State.setLastRoute_rc : (s.setLastRoute v).rc = s.rc := rfl
@[simp] theorem State.setLastRoute_piv : (s.setLastRoute v).piv = s.piv := rfl
@[simp] theorem State.setLastRoute_rx : (s.setLastRoute v).rx = s.rx := rfl
@[simp] theorem State.setLastRoute_tx : (s.setLastRoute v).tx = s.tx := rfl
@[simp] theorem State.setLastRoute_ctl : (s.setLastRoute v).ctl = s.ctl := rfl
@[simp] theorem State.setLastRoute_ctx : (s.setLastRoute v).ctx = s.ctx := rfl
@[simp] theorem State.setLastRoute_lastCond : (s.setLastRoute v).lastCond = s.lastCond := rfl
@[simp] theorem State.setLastRoute_lastRoute : (s.setLastRoute v).lastRoute = v := rfl
@[simp] theorem State.setLastRoute_lastRxLen : (s.setLastRoute v).lastRxLen = s.lastRxLen := rfl
@[simp] theorem State.setLastRoute_txLen : (s.setLastRoute v).txLen = s.txLen := rfl
@[simp] theorem State.setLastRoute_response : (s.setLastRoute v).response = s.response := rfl
@[simp] theorem State.setLastRoute_pending : (s.setLastRoute v).pending = s.pending := rfl
@[simp] theorem State.setLastRoute_lengthCheck : (s.setLastRoute v).lengthCheck = s.lengthCheck := rfl
@[simp] theorem State.setLastRoute_host : (s.setLastRoute v).host = s.host := rfl
@[simp] theorem State.setLastRoute_transport : (s.setLastRoute v).transport = s.transport := rfl
end

section
variable (s : State) (v : BitVec 11)
@[simp] theorem State.setLastRxLen_seq : (s.setLastRxLen v).seq = s.seq := rfl
@[simp] theorem State.setLastRxLen_rc : (s.setLastRxLen v).rc = s.rc := rfl
@[simp] theorem State.setLastRxLen_piv : (s.setLastRxLen v).piv = s.piv := rfl
@[simp] theorem State.setLastRxLen_rx : (s.setLastRxLen v).rx = s.rx := rfl
@[simp] theorem State.setLastRxLen_tx : (s.setLastRxLen v).tx = s.tx := rfl
@[simp] theorem State.setLastRxLen_ctl : (s.setLastRxLen v).ctl = s.ctl := rfl
@[simp] theorem State.setLastRxLen_ctx : (s.setLastRxLen v).ctx = s.ctx := rfl
@[simp] theorem State.setLastRxLen_lastCond : (s.setLastRxLen v).lastCond = s.lastCond := rfl
@[simp] theorem State.setLastRxLen_lastRoute : (s.setLastRxLen v).lastRoute = s.lastRoute := rfl
@[simp] theorem State.setLastRxLen_lastRxLen : (s.setLastRxLen v).lastRxLen = v := rfl
@[simp] theorem State.setLastRxLen_txLen : (s.setLastRxLen v).txLen = s.txLen := rfl
@[simp] theorem State.setLastRxLen_response : (s.setLastRxLen v).response = s.response := rfl
@[simp] theorem State.setLastRxLen_pending : (s.setLastRxLen v).pending = s.pending := rfl
@[simp] theorem State.setLastRxLen_lengthCheck : (s.setLastRxLen v).lengthCheck = s.lengthCheck := rfl
@[simp] theorem State.setLastRxLen_host : (s.setLastRxLen v).host = s.host := rfl
@[simp] theorem State.setLastRxLen_transport : (s.setLastRxLen v).transport = s.transport := rfl
end

section
variable (s : State) (v : Nat)
@[simp] theorem State.setTxLen_seq : (s.setTxLen v).seq = s.seq := rfl
@[simp] theorem State.setTxLen_rc : (s.setTxLen v).rc = s.rc := rfl
@[simp] theorem State.setTxLen_piv : (s.setTxLen v).piv = s.piv := rfl
@[simp] theorem State.setTxLen_rx : (s.setTxLen v).rx = s.rx := rfl
@[simp] theorem State.setTxLen_tx : (s.setTxLen v).tx = s.tx := rfl
@[simp] theorem State.setTxLen_ctl : (s.setTxLen v).ctl = s.ctl := rfl
@[simp] theorem State.setTxLen_ctx : (s.setTxLen v).ctx = s.ctx := rfl
@[simp] theorem State.setTxLen_lastCond : (s.setTxLen v).lastCond = s.lastCond := rfl
@[simp] theorem State.setTxLen_lastRoute : (s.setTxLen v).lastRoute = s.lastRoute := rfl
@[simp] theorem State.setTxLen_lastRxLen : (s.setTxLen v).lastRxLen = s.lastRxLen := rfl
@[simp] theorem State.setTxLen_txLen : (s.setTxLen v).txLen = v := rfl
@[simp] theorem State.setTxLen_response : (s.setTxLen v).response = s.response := rfl
@[simp] theorem State.setTxLen_pending : (s.setTxLen v).pending = s.pending := rfl
@[simp] theorem State.setTxLen_lengthCheck : (s.setTxLen v).lengthCheck = s.lengthCheck := rfl
@[simp] theorem State.setTxLen_host : (s.setTxLen v).host = s.host := rfl
@[simp] theorem State.setTxLen_transport : (s.setTxLen v).transport = s.transport := rfl
end

section
variable (s : State) (v : Option Response)
@[simp] theorem State.setResponse_seq : (s.setResponse v).seq = s.seq := rfl
@[simp] theorem State.setResponse_rc : (s.setResponse v).rc = s.rc := rfl
@[simp] theorem State.setResponse_piv : (s.setResponse v).piv = s.piv := rfl
@[simp] theorem State.setResponse_rx : (s.setResponse v).rx = s.rx := rfl
@[simp] theorem State.setResponse_tx : (s.setResponse v).tx = s.tx := rfl
@[simp] theorem State.setResponse_ctl : (s.setResponse v).ctl = s.ctl := rfl
@[simp] theorem State.setResponse_ctx : (s.setResponse v).ctx = s.ctx := rfl
@[simp] theorem State.setResponse_lastCond : (s.setResponse v).lastCond = s.lastCond := rfl
@[simp] theorem State.setResponse_lastRoute : (s.setResponse v).lastRoute = s.lastRoute := rfl
@[simp] theorem State.setResponse_lastRxLen : (s.setResponse v).lastRxLen = s.lastRxLen := rfl
@[simp] theorem State.setResponse_txLen : (s.setResponse v).txLen = s.txLen := rfl
@[simp] theorem State.setResponse_response : (s.setResponse v).response = v := rfl
@[simp] theorem State.setResponse_pending : (s.setResponse v).pending = s.pending := rfl
@[simp] theorem State.setResponse_lengthCheck : (s.setResponse v).lengthCheck = s.lengthCheck := rfl
@[simp] theorem State.setResponse_host : (s.setResponse v).host = s.host := rfl
@[simp] theorem State.setResponse_transport : (s.setResponse v).transport = s.transport := rfl
end

section
variable (s : State) (v : Option Event)
@[simp] theorem State.setPending_seq : (s.setPending v).seq = s.seq := rfl
@[simp] theorem State.setPending_rc : (s.setPending v).rc = s.rc := rfl
@[simp] theorem State.setPending_piv : (s.setPending v).piv = s.piv := rfl
@[simp] theorem State.setPending_rx : (s.setPending v).rx = s.rx := rfl
@[simp] theorem State.setPending_tx : (s.setPending v).tx = s.tx := rfl
@[simp] theorem State.setPending_ctl : (s.setPending v).ctl = s.ctl := rfl
@[simp] theorem State.setPending_ctx : (s.setPending v).ctx = s.ctx := rfl
@[simp] theorem State.setPending_lastCond : (s.setPending v).lastCond = s.lastCond := rfl
@[simp] theorem State.setPending_lastRoute : (s.setPending v).lastRoute = s.lastRoute := rfl
@[simp] theorem State.setPending_lastRxLen : (s.setPending v).lastRxLen = s.lastRxLen := rfl
@[simp] theorem State.setPending_txLen : (s.setPending v).txLen = s.txLen := rfl
@[simp] theorem State.setPending_response : (s.setPending v).response = s.response := rfl
@[simp] theorem State.setPending_pending : (s.setPending v).pending = v := rfl
@[simp] theorem State.setPending_lengthCheck : (s.setPending v).lengthCheck = s.lengthCheck := rfl
@[simp] theorem State.setPending_host : (s.setPending v).host = s.host := rfl
@[simp] theorem State.setPending_transport : (s.setPending v).transport = s.transport := rfl
end

section
variable (s : State) (v : Bool)
@[simp] theorem State.setLengthCheck_seq : (s.setLengthCheck v).seq = s.seq := rfl
@[simp] theorem State.setLengthCheck_rc : (s.setLengthCheck v).rc = s.rc := rfl
@[simp] theorem State.setLengthCheck_piv : (s.setLengthCheck v).piv = s.piv := rfl
@[simp] theorem State.setLengthCheck_rx : (s.setLengthCheck v).rx = s.rx := rfl
@[simp] theorem State.setLengthCheck_tx : (s.setLengthCheck v).tx = s.tx := rfl
@[simp] theorem State.setLengthCheck_ctl : (s.setLengthCheck v).ctl = s.ctl := rfl
@[simp] theorem State.setLengthCheck_ctx : (s.setLengthCheck v).ctx = s.ctx := rfl
@[simp] theorem State.setLengthCheck_lastCond : (s.setLengthCheck v).lastCond = s.lastCond := rfl
@[simp] theorem State.setLengthCheck_lastRoute : (s.setLengthCheck v).lastRoute = s.lastRoute := rfl
@[simp] theorem State.setLengthCheck_lastRxLen : (s.setLengthCheck v).lastRxLen = s.lastRxLen := rfl
@[simp] theorem State.setLengthCheck_txLen : (s.setLengthCheck v).txLen = s.txLen := rfl
@[simp] theorem State.setLengthCheck_response : (s.setLengthCheck v).response = s.response := rfl
@[simp] theorem State.setLengthCheck_pending : (s.setLengthCheck v).pending = s.pending := rfl
@[simp] theorem State.setLengthCheck_lengthCheck : (s.setLengthCheck v).lengthCheck = v := rfl
@[simp] theorem State.setLengthCheck_host : (s.setLengthCheck v).host = s.host := rfl
@[simp] theorem State.setLengthCheck_transport : (s.setLengthCheck v).transport = s.transport := rfl
end

section
variable (s : State) (v : List HostEvent)
@[simp] theorem State.setHost_seq : (s.setHost v).seq = s.seq := rfl
@[simp] theorem State.setHost_rc : (s.setHost v).rc = s.rc := rfl
@[simp] theorem State.setHost_piv : (s.setHost v).piv = s.piv := rfl
@[simp] theorem State.setHost_rx : (s.setHost v).rx = s.rx := rfl
@[simp] theorem State.setHost_tx : (s.setHost v).tx = s.tx := rfl
@[simp] theorem State.setHost_ctl : (s.setHost v).ctl = s.ctl := rfl
@[simp] theorem State.setHost_ctx : (s.setHost v).ctx = s.ctx := rfl
@[simp] theorem State.setHost_lastCond : (s.setHost v).lastCond = s.lastCond := rfl
@[simp] theorem State.setHost_lastRoute : (s.setHost v).lastRoute = s.lastRoute := rfl
@[simp] theorem State.setHost_lastRxLen : (s.setHost v).lastRxLen = s.lastRxLen := rfl
@[simp] theorem State.setHost_txLen : (s.setHost v).txLen = s.txLen := rfl
@[simp] theorem State.setHost_response : (s.setHost v).response = s.response := rfl
@[simp] theorem State.setHost_pending : (s.setHost v).pending = s.pending := rfl
@[simp] theorem State.setHost_lengthCheck : (s.setHost v).lengthCheck = s.lengthCheck := rfl
@[simp] theorem State.setHost_host : (s.setHost v).host = v := rfl
@[simp] theorem State.setHost_transport : (s.setHost v).transport = s.transport := rfl
end

section
variable (s : State) (v : Transport)
@[simp] theorem State.setTransport_seq : (s.setTransport v).seq = s.seq := rfl
@[simp] theorem State.setTransport_rc : (s.setTransport v).rc = s.rc := rfl
@[simp] theorem State.setTransport_piv : (s.setTransport v).piv = s.piv := rfl
@[simp] theorem State.setTransport_rx : (s.setTransport v).rx = s.rx := rfl
@[simp] theorem State.setTransport_tx : (s.setTransport v).tx = s.tx := rfl
@[simp] theorem State.setTransport_ctl : (s.setTransport v).ctl = s.ctl := rfl
@[simp] theorem State.setTransport_ctx : (s.setTransport v).ctx = s.ctx := rfl
@[simp] theorem State.setTransport_lastCond : (s.setTransport v).lastCond = s.lastCond := rfl
@[simp] theorem State.setTransport_lastRoute : (s.setTransport v).lastRoute = s.lastRoute := rfl
@[simp] theorem State.setTransport_lastRxLen : (s.setTransport v).lastRxLen = s.lastRxLen := rfl
@[simp] theorem State.setTransport_txLen : (s.setTransport v).txLen = s.txLen := rfl
@[simp] theorem State.setTransport_response : (s.setTransport v).response = s.response := rfl
@[simp] theorem State.setTransport_pending : (s.setTransport v).pending = s.pending := rfl
@[simp] theorem State.setTransport_lengthCheck : (s.setTransport v).lengthCheck = s.lengthCheck := rfl
@[simp] theorem State.setTransport_host : (s.setTransport v).host = s.host := rfl
@[simp] theorem State.setTransport_transport : (s.setTransport v).transport = v := rfl
end

section
variable (s : State)
@[simp] theorem State.taken_seq : s.taken.seq = s.seq := rfl
@[simp] theorem State.taken_rc : s.taken.rc = s.rc := rfl
@[simp] theorem State.taken_piv : s.taken.piv = s.piv := rfl
@[simp] theorem State.taken_rx : s.taken.rx = s.rx := rfl
@[simp] theorem State.taken_tx : s.taken.tx = s.tx := rfl
@[simp] theorem State.taken_ctl : s.taken.ctl = s.ctl := rfl
@[simp] theorem State.taken_ctx : s.taken.ctx = s.ctx := rfl
@[simp] theorem State.taken_lastCond : s.taken.lastCond = s.lastCond := rfl
@[simp] theorem State.taken_lastRoute : s.taken.lastRoute = s.lastRoute := rfl
@[simp] theorem State.taken_lastRxLen : s.taken.lastRxLen = s.lastRxLen := rfl
@[simp] theorem State.taken_txLen : s.taken.txLen = s.txLen := rfl
@[simp] theorem State.taken_response : s.taken.response = s.response := rfl
@[simp] theorem State.taken_pending : s.taken.pending = none := rfl
@[simp] theorem State.taken_lengthCheck : s.taken.lengthCheck = s.lengthCheck := rfl
@[simp] theorem State.taken_host : s.taken.host = s.host := rfl
@[simp] theorem State.taken_transport : s.taken.transport = s.transport := rfl
end

end Sys2Proof.Machine
end

