-- ==== Sys2Proof/Laws/Buffers.lean ====
section
/-!
SUPPORT. What the buffer operations do: what a write leaves at every offset, and that each operation keeps the canonical
form (spec 20_memory R37, R40, R48).
-/

namespace Sys2Proof.Machine

/-! ### Cells -/

theorem cellAt_append (l m : List Host.Cell) (i : Nat) :
    cellAt (l ++ m) i = (cellAt l i).or (cellAt m i) := by
  induction l with
  | nil => simp [cellAt]
  | cons c l ih =>
    obtain ⟨a, v⟩ := c
    by_cases h : a = i <;> simp [cellAt, h, ih]

theorem cellAt_filter (p : Nat → Bool) (l : List Host.Cell) (i : Nat) :
    cellAt (l.filter fun c => p c.1) i = if p i then cellAt l i else none := by
  induction l with
  | nil => simp [cellAt]
  | cons c l ih =>
    obtain ⟨a, v⟩ := c
    by_cases hp : p a = true
    · by_cases h : a = i
      · subst h; simp [hp, cellAt]
      · simp [hp, cellAt, h, ih]
    · by_cases h : a = i
      · subst h; simp [hp, ih]
      · simp [hp, cellAt, h, ih]

theorem cellAt_blockCells (bytes : List Byte) (base i : Nat) :
    cellAt (blockCells base bytes) i = if base ≤ i then bytes[i - base]? else none := by
  induction bytes generalizing base with
  | nil => simp [blockCells, cellAt]
  | cons v rest ih =>
    rw [blockCells, cellAt]
    by_cases h : base = i
    · subst h; simp
    · rw [if_neg h, ih]
      by_cases hle : base ≤ i
      · have h1 : i - base = (i - (base + 1)) + 1 := by omega
        rw [if_pos (by omega : base + 1 ≤ i), if_pos hle, h1, List.getElem?_cons_succ]
      · rw [if_neg (by omega), if_neg hle]

/-- What a write leaves at an offset: its own byte there, else what was there. -/
theorem Buffer.written_write (b : Buffer) (base : Nat) (bytes : List Byte) (i : Nat) :
    (b.write base bytes).written i =
      if base ≤ i ∧ i < base + bytes.length then bytes[i - base]? else b.written i := by
  unfold Buffer.write Buffer.written
  rw [cellAt_append, cellAt_append, cellAt_filter (fun a => decide (a < base)), cellAt_blockCells,
    cellAt_filter (fun a => decide (base + bytes.length ≤ a))]
  by_cases h1 : base ≤ i
  · by_cases h2 : i < base + bytes.length
    · have h3 : i - base < bytes.length := by omega
      simp [h1, h2, h3, Nat.not_lt.mpr h1]
    · have h3 : bytes.length ≤ i - base := by omega
      simp [h1, h2, Nat.not_lt.mpr h1, Nat.not_lt.mp h2, h3]
  · have h2 : ¬ base + bytes.length ≤ i := by omega
    simp [h1, h2, Nat.not_le.mp h1]

@[simp] theorem Buffer.write_epoch (b : Buffer) (base : Nat) (bytes : List Byte) :
    (b.write base bytes).epoch = b.epoch := rfl

@[simp] theorem Buffer.redraw_written (b : Buffer) (i : Nat) : b.redraw.written i = none := rfl

@[simp] theorem Buffer.redraw_epoch (b : Buffer) : b.redraw.epoch = b.epoch + 1 := rfl

/-! ### The canonical form -/

theorem Buffer.wf_iff (cap : Nat) (b : Buffer) :
    b.wf cap = true ↔ b.cells.Pairwise (fun c d => c.1 < d.1) ∧ ∀ c ∈ b.cells, c.1 < cap := by
  simp [Buffer.wf]

theorem mem_blockCells {bytes : List Byte} {base : Nat} {c : Host.Cell} (h : c ∈ blockCells base bytes) :
    base ≤ c.1 ∧ c.1 < base + bytes.length := by
  induction bytes generalizing base with
  | nil => simp [blockCells] at h
  | cons v rest ih =>
    simp only [blockCells, List.mem_cons] at h
    rcases h with rfl | h
    · simp
    · have := ih h
      simp only [List.length_cons]
      omega

theorem blockCells_rising (bytes : List Byte) (base : Nat) :
    (blockCells base bytes).Pairwise (fun c d => c.1 < d.1) := by
  induction bytes generalizing base with
  | nil => exact .nil
  | cons v rest ih =>
    refine List.pairwise_cons.mpr ⟨fun d hd => ?_, ih _⟩
    have := (mem_blockCells hd).1
    simp only
    omega

/-- A write that ends within the capacity keeps the canonical form. -/
theorem Buffer.write_wf {cap : Nat} {b : Buffer} {base : Nat} {bytes : List Byte}
    (hb : b.wf cap = true) (hfit : base + bytes.length ≤ cap) : (b.write base bytes).wf cap = true := by
  rw [Buffer.wf_iff] at hb ⊢
  obtain ⟨hp, hm⟩ := hb
  constructor
  · refine List.pairwise_append.mpr ⟨List.pairwise_append.mpr ⟨hp.filter _, blockCells_rising _ _, ?_⟩,
      hp.filter _, ?_⟩
    · intro c hc d hd
      have h1 := (List.mem_filter.mp hc).2
      have h2 := (mem_blockCells hd).1
      simp only [decide_eq_true_eq] at h1
      omega
    · intro c hc d hd
      have h2 := (List.mem_filter.mp hd).2
      simp only [decide_eq_true_eq] at h2
      rcases List.mem_append.mp hc with hc | hc
      · have h1 := (List.mem_filter.mp hc).2
        simp only [decide_eq_true_eq] at h1
        omega
      · have h1 := (mem_blockCells hc).2
        omega
  · intro c hc
    rcases List.mem_append.mp hc with hc | hc
    · rcases List.mem_append.mp hc with hc | hc
      · exact hm c (List.mem_filter.mp hc).1
      · have h1 := (mem_blockCells hc).2
        omega
    · exact hm c (List.mem_filter.mp hc).1

theorem Buffer.unwritten_wf (cap epoch : Nat) : (Buffer.unwritten epoch).wf cap = true := rfl

theorem Buffer.redraw_wf (cap : Nat) (b : Buffer) : b.redraw.wf cap = true := rfl

/-- The state after reset has both buffers in canonical form. -/
theorem reset_memory_wf : Memory.wf State.reset = true := rfl

theorem Memory.wf_iff (s : State) :
    Memory.wf s = true ↔ s.rx.wf Config.rxCap = true ∧ s.tx.wf Config.txCap = true := by
  simp [Memory.wf]

/-! ### Reading a block -/

@[simp] theorem State.rxBytes_length (s : State) (n : Nat) : (s.rxBytes n).length = n := by simp [State.rxBytes]

@[simp] theorem State.txBytes_length (s : State) (n : Nat) : (s.txBytes n).length = n := by simp [State.txBytes]

/-- Reading back the bytes just written at the buffer's start. -/
theorem map_getD_eq (f : Nat → Option Byte) (g : Nat → Byte) (bytes : List Byte)
    (h : ∀ i, i < bytes.length → f i = bytes[i]?) :
    (List.range bytes.length).map (fun i => (f i).getD (g i)) = bytes := by
  apply List.ext_getElem
  · simp
  · intro i h1 h2
    simp [h i h2, h2]

end Sys2Proof.Machine
end

