-- ==== Sys2Proof/Laws/Ops.lean ====
section
/-!
SUPPORT. One lemma per field for each shared operation that ends a command, sets a flag, records a receive or counts a
drain: what it writes and what it leaves alone.
-/

namespace Sys2Proof.Machine

section
variable (cond : Cond) (value : Word) (route : Route) (info : Info) (s : State)
@[simp] theorem respond_seq : (respond cond value route info s).seq = s.seq := rfl
@[simp] theorem respond_rc : (respond cond value route info s).rc = s.rc := rfl
@[simp] theorem respond_piv : (respond cond value route info s).piv = s.piv := rfl
@[simp] theorem respond_rx : (respond cond value route info s).rx = s.rx := rfl
@[simp] theorem respond_tx : (respond cond value route info s).tx = s.tx := rfl
@[simp] theorem respond_ctl : (respond cond value route info s).ctl = .idle := rfl
@[simp] theorem respond_ctx : (respond cond value route info s).ctx = s.ctx := rfl
@[simp] theorem respond_lastCond : (respond cond value route info s).lastCond = s.lastCond := rfl
@[simp] theorem respond_lastRoute : (respond cond value route info s).lastRoute = s.lastRoute := rfl
@[simp] theorem respond_lastRxLen : (respond cond value route info s).lastRxLen = s.lastRxLen := rfl
@[simp] theorem respond_txLen : (respond cond value route info s).txLen = s.txLen := rfl
@[simp] theorem respond_response : (respond cond value route info s).response = some { cond := cond, value := value, route := route, info := info } := rfl
@[simp] theorem respond_pending : (respond cond value route info s).pending = s.pending := rfl
@[simp] theorem respond_lengthCheck : (respond cond value route info s).lengthCheck = s.lengthCheck := rfl
@[simp] theorem respond_host : (respond cond value route info s).host = s.host := rfl
@[simp] theorem respond_transport : (respond cond value route info s).transport = s.transport := rfl
end

section
variable (cond : Cond) (info : Info) (s : State)
@[simp] theorem raise_seq : (raise cond info s).seq = s.seq := rfl
@[simp] theorem raise_rc : (raise cond info s).rc = s.rc := rfl
@[simp] theorem raise_piv : (raise cond info s).piv = s.piv := rfl
@[simp] theorem raise_rx : (raise cond info s).rx = s.rx := rfl
@[simp] theorem raise_tx : (raise cond info s).tx = s.tx := rfl
@[simp] theorem raise_ctl : (raise cond info s).ctl = .idle := rfl
@[simp] theorem raise_ctx : (raise cond info s).ctx = s.ctx := rfl
@[simp] theorem raise_lastCond : (raise cond info s).lastCond = cond := rfl
@[simp] theorem raise_lastRoute : (raise cond info s).lastRoute = s.lastRoute := rfl
@[simp] theorem raise_lastRxLen : (raise cond info s).lastRxLen = s.lastRxLen := rfl
@[simp] theorem raise_txLen : (raise cond info s).txLen = s.txLen := rfl
@[simp] theorem raise_response : (raise cond info s).response = some { cond := cond, value := 0#32, route := .none, info := info } := rfl
@[simp] theorem raise_pending : (raise cond info s).pending = s.pending := rfl
@[simp] theorem raise_lengthCheck : (raise cond info s).lengthCheck = s.lengthCheck := rfl
@[simp] theorem raise_host : (raise cond info s).host = s.host := rfl
@[simp] theorem raise_transport : (raise cond info s).transport = s.transport := rfl
end

section
variable (value : Word) (s : State)
@[simp] theorem complete_seq : (complete value s).seq = s.seq := rfl
@[simp] theorem complete_rc : (complete value s).rc = s.rc := rfl
@[simp] theorem complete_piv : (complete value s).piv = s.piv := rfl
@[simp] theorem complete_rx : (complete value s).rx = s.rx := rfl
@[simp] theorem complete_tx : (complete value s).tx = s.tx := rfl
@[simp] theorem complete_ctl : (complete value s).ctl = .idle := rfl
@[simp] theorem complete_ctx : (complete value s).ctx = s.ctx := rfl
@[simp] theorem complete_lastCond : (complete value s).lastCond = .ok := rfl
@[simp] theorem complete_lastRoute : (complete value s).lastRoute = s.lastRoute := rfl
@[simp] theorem complete_lastRxLen : (complete value s).lastRxLen = s.lastRxLen := rfl
@[simp] theorem complete_txLen : (complete value s).txLen = s.txLen := rfl
@[simp] theorem complete_response : (complete value s).response = some { cond := .ok, value := value, route := .none, info := .absent } := rfl
@[simp] theorem complete_pending : (complete value s).pending = s.pending := rfl
@[simp] theorem complete_lengthCheck : (complete value s).lengthCheck = s.lengthCheck := rfl
@[simp] theorem complete_host : (complete value s).host = s.host := rfl
@[simp] theorem complete_transport : (complete value s).transport = s.transport := rfl
end

section
variable (s : State)
@[simp] theorem badCommand_seq : (badCommand s).seq = s.seq := rfl
@[simp] theorem badCommand_rc : (badCommand s).rc = s.rc := rfl
@[simp] theorem badCommand_piv : (badCommand s).piv = s.piv := rfl
@[simp] theorem badCommand_rx : (badCommand s).rx = s.rx := rfl
@[simp] theorem badCommand_tx : (badCommand s).tx = s.tx := rfl
@[simp] theorem badCommand_ctl : (badCommand s).ctl = .idle := rfl
@[simp] theorem badCommand_ctx : (badCommand s).ctx = s.ctx := rfl
@[simp] theorem badCommand_lastCond : (badCommand s).lastCond = .badCommand := rfl
@[simp] theorem badCommand_lastRoute : (badCommand s).lastRoute = s.lastRoute := rfl
@[simp] theorem badCommand_lastRxLen : (badCommand s).lastRxLen = s.lastRxLen := rfl
@[simp] theorem badCommand_txLen : (badCommand s).txLen = s.txLen := rfl
@[simp] theorem badCommand_response : (badCommand s).response = some { cond := .badCommand, value := 0#32, route := .none, info := .absent } := rfl
@[simp] theorem badCommand_pending : (badCommand s).pending = s.pending := rfl
@[simp] theorem badCommand_lengthCheck : (badCommand s).lengthCheck = s.lengthCheck := rfl
@[simp] theorem badCommand_host : (badCommand s).host = s.host := rfl
@[simp] theorem badCommand_transport : (badCommand s).transport = s.transport := rfl
end

section
variable (s : State)
@[simp] theorem setResetComplete_seq : (setResetComplete s).seq = s.seq := rfl
@[simp] theorem setResetComplete_rc : (setResetComplete s).rc = true := rfl
@[simp] theorem setResetComplete_piv : (setResetComplete s).piv = s.piv := rfl
@[simp] theorem setResetComplete_rx : (setResetComplete s).rx = s.rx := rfl
@[simp] theorem setResetComplete_tx : (setResetComplete s).tx = s.tx := rfl
@[simp] theorem setResetComplete_ctl : (setResetComplete s).ctl = s.ctl := rfl
@[simp] theorem setResetComplete_ctx : (setResetComplete s).ctx = s.ctx := rfl
@[simp] theorem setResetComplete_lastCond : (setResetComplete s).lastCond = s.lastCond := rfl
@[simp] theorem setResetComplete_lastRoute : (setResetComplete s).lastRoute = s.lastRoute := rfl
@[simp] theorem setResetComplete_lastRxLen : (setResetComplete s).lastRxLen = s.lastRxLen := rfl
@[simp] theorem setResetComplete_txLen : (setResetComplete s).txLen = s.txLen := rfl
@[simp] theorem setResetComplete_response : (setResetComplete s).response = s.response := rfl
@[simp] theorem setResetComplete_pending : (setResetComplete s).pending = s.pending := rfl
@[simp] theorem setResetComplete_lengthCheck : (setResetComplete s).lengthCheck = s.lengthCheck := rfl
@[simp] theorem setResetComplete_host : (setResetComplete s).host = s.host := rfl
@[simp] theorem setResetComplete_transport : (setResetComplete s).transport = s.transport := rfl
end

section
variable (s : State)
@[simp] theorem setProductIdVerified_seq : (setProductIdVerified s).seq = s.seq := rfl
@[simp] theorem setProductIdVerified_rc : (setProductIdVerified s).rc = s.rc := rfl
@[simp] theorem setProductIdVerified_piv : (setProductIdVerified s).piv = true := rfl
@[simp] theorem setProductIdVerified_rx : (setProductIdVerified s).rx = s.rx := rfl
@[simp] theorem setProductIdVerified_tx : (setProductIdVerified s).tx = s.tx := rfl
@[simp] theorem setProductIdVerified_ctl : (setProductIdVerified s).ctl = s.ctl := rfl
@[simp] theorem setProductIdVerified_ctx : (setProductIdVerified s).ctx = s.ctx := rfl
@[simp] theorem setProductIdVerified_lastCond : (setProductIdVerified s).lastCond = s.lastCond := rfl
@[simp] theorem setProductIdVerified_lastRoute : (setProductIdVerified s).lastRoute = s.lastRoute := rfl
@[simp] theorem setProductIdVerified_lastRxLen : (setProductIdVerified s).lastRxLen = s.lastRxLen := rfl
@[simp] theorem setProductIdVerified_txLen : (setProductIdVerified s).txLen = s.txLen := rfl
@[simp] theorem setProductIdVerified_response : (setProductIdVerified s).response = s.response := rfl
@[simp] theorem setProductIdVerified_pending : (setProductIdVerified s).pending = s.pending := rfl
@[simp] theorem setProductIdVerified_lengthCheck : (setProductIdVerified s).lengthCheck = s.lengthCheck := rfl
@[simp] theorem setProductIdVerified_host : (setProductIdVerified s).host = s.host := rfl
@[simp] theorem setProductIdVerified_transport : (setProductIdVerified s).transport = s.transport := rfl
end

section
variable (bytes : List Byte) (s : State)
@[simp] theorem fillRx_seq : (fillRx bytes s).seq = s.seq := rfl
@[simp] theorem fillRx_rc : (fillRx bytes s).rc = s.rc := rfl
@[simp] theorem fillRx_piv : (fillRx bytes s).piv = s.piv := rfl
@[simp] theorem fillRx_rx : (fillRx bytes s).rx = s.rx.write 0 bytes := rfl
@[simp] theorem fillRx_tx : (fillRx bytes s).tx = s.tx := rfl
@[simp] theorem fillRx_ctl : (fillRx bytes s).ctl = s.ctl := rfl
@[simp] theorem fillRx_ctx : (fillRx bytes s).ctx = s.ctx := rfl
@[simp] theorem fillRx_lastCond : (fillRx bytes s).lastCond = s.lastCond := rfl
@[simp] theorem fillRx_lastRoute : (fillRx bytes s).lastRoute = s.lastRoute := rfl
@[simp] theorem fillRx_lastRxLen : (fillRx bytes s).lastRxLen = s.lastRxLen := rfl
@[simp] theorem fillRx_txLen : (fillRx bytes s).txLen = s.txLen := rfl
@[simp] theorem fillRx_response : (fillRx bytes s).response = s.response := rfl
@[simp] theorem fillRx_pending : (fillRx bytes s).pending = s.pending := rfl
@[simp] theorem fillRx_lengthCheck : (fillRx bytes s).lengthCheck = s.lengthCheck := rfl
@[simp] theorem fillRx_host : (fillRx bytes s).host = s.host := rfl
@[simp] theorem fillRx_transport : (fillRx bytes s).transport = s.transport := rfl
end

section
variable (s : State)
@[simp] theorem spoilRx_seq : (spoilRx s).seq = s.seq := rfl
@[simp] theorem spoilRx_rc : (spoilRx s).rc = s.rc := rfl
@[simp] theorem spoilRx_piv : (spoilRx s).piv = s.piv := rfl
@[simp] theorem spoilRx_rx : (spoilRx s).rx = s.rx.redraw := rfl
@[simp] theorem spoilRx_tx : (spoilRx s).tx = s.tx := rfl
@[simp] theorem spoilRx_ctl : (spoilRx s).ctl = s.ctl := rfl
@[simp] theorem spoilRx_ctx : (spoilRx s).ctx = s.ctx := rfl
@[simp] theorem spoilRx_lastCond : (spoilRx s).lastCond = s.lastCond := rfl
@[simp] theorem spoilRx_lastRoute : (spoilRx s).lastRoute = s.lastRoute := rfl
@[simp] theorem spoilRx_lastRxLen : (spoilRx s).lastRxLen = s.lastRxLen := rfl
@[simp] theorem spoilRx_txLen : (spoilRx s).txLen = s.txLen := rfl
@[simp] theorem spoilRx_response : (spoilRx s).response = s.response := rfl
@[simp] theorem spoilRx_pending : (spoilRx s).pending = s.pending := rfl
@[simp] theorem spoilRx_lengthCheck : (spoilRx s).lengthCheck = s.lengthCheck := rfl
@[simp] theorem spoilRx_host : (spoilRx s).host = s.host := rfl
@[simp] theorem spoilRx_transport : (spoilRx s).transport = s.transport := rfl
end

section
variable (r : Nat) (s : State)
@[simp] theorem recordRx_seq : (recordRx r s).seq = s.seq := rfl
@[simp] theorem recordRx_rc : (recordRx r s).rc = s.rc := rfl
@[simp] theorem recordRx_piv : (recordRx r s).piv = s.piv := rfl
@[simp] theorem recordRx_rx : (recordRx r s).rx = s.rx := rfl
@[simp] theorem recordRx_tx : (recordRx r s).tx = s.tx := rfl
@[simp] theorem recordRx_ctl : (recordRx r s).ctl = s.ctl := rfl
@[simp] theorem recordRx_ctx : (recordRx r s).ctx = s.ctx := rfl
@[simp] theorem recordRx_lastCond : (recordRx r s).lastCond = s.lastCond := rfl
@[simp] theorem recordRx_lastRoute : (recordRx r s).lastRoute = s.lastRoute := rfl
@[simp] theorem recordRx_lastRxLen : (recordRx r s).lastRxLen = BitVec.ofNat 11 r := rfl
@[simp] theorem recordRx_txLen : (recordRx r s).txLen = s.txLen := rfl
@[simp] theorem recordRx_response : (recordRx r s).response = s.response := rfl
@[simp] theorem recordRx_pending : (recordRx r s).pending = none := rfl
@[simp] theorem recordRx_lengthCheck : (recordRx r s).lengthCheck = s.lengthCheck := rfl
@[simp] theorem recordRx_host : (recordRx r s).host = s.host := rfl
@[simp] theorem recordRx_transport : (recordRx r s).transport = s.transport := rfl
end

section
variable (cond : Cond) (rt : Route) (count : Word) (s : State)
@[simp] theorem handled_seq : (handled cond rt count s).seq = s.seq := rfl
@[simp] theorem handled_rc : (handled cond rt count s).rc = s.rc := rfl
@[simp] theorem handled_piv : (handled cond rt count s).piv = s.piv := rfl
@[simp] theorem handled_rx : (handled cond rt count s).rx = s.rx := rfl
@[simp] theorem handled_tx : (handled cond rt count s).tx = s.tx := rfl
@[simp] theorem handled_ctl : (handled cond rt count s).ctl = .idle := rfl
@[simp] theorem handled_ctx : (handled cond rt count s).ctx = s.ctx := rfl
@[simp] theorem handled_lastCond : (handled cond rt count s).lastCond = cond := rfl
@[simp] theorem handled_lastRoute : (handled cond rt count s).lastRoute = rt := rfl
@[simp] theorem handled_lastRxLen : (handled cond rt count s).lastRxLen = s.lastRxLen := rfl
@[simp] theorem handled_txLen : (handled cond rt count s).txLen = s.txLen := rfl
@[simp] theorem handled_response : (handled cond rt count s).response = some { cond := .ok, value := count, route := rt, info := .absent } := rfl
@[simp] theorem handled_pending : (handled cond rt count s).pending = s.pending := rfl
@[simp] theorem handled_lengthCheck : (handled cond rt count s).lengthCheck = s.lengthCheck := rfl
@[simp] theorem handled_host : (handled cond rt count s).host = s.host := rfl
@[simp] theorem handled_transport : (handled cond rt count s).transport = s.transport := rfl
end

section
variable (s : State)
@[simp] theorem drainStart_seq : (drainStart s).seq = s.seq := rfl
@[simp] theorem drainStart_rc : (drainStart s).rc = s.rc := rfl
@[simp] theorem drainStart_piv : (drainStart s).piv = s.piv := rfl
@[simp] theorem drainStart_rx : (drainStart s).rx = s.rx := rfl
@[simp] theorem drainStart_tx : (drainStart s).tx = s.tx := rfl
@[simp] theorem drainStart_ctl : (drainStart s).ctl = s.ctl := rfl
@[simp] theorem drainStart_ctx : (drainStart s).ctx = { s.ctx with n := 0#32 } := rfl
@[simp] theorem drainStart_lastCond : (drainStart s).lastCond = s.lastCond := rfl
@[simp] theorem drainStart_lastRoute : (drainStart s).lastRoute = s.lastRoute := rfl
@[simp] theorem drainStart_lastRxLen : (drainStart s).lastRxLen = s.lastRxLen := rfl
@[simp] theorem drainStart_txLen : (drainStart s).txLen = s.txLen := rfl
@[simp] theorem drainStart_response : (drainStart s).response = s.response := rfl
@[simp] theorem drainStart_pending : (drainStart s).pending = s.pending := rfl
@[simp] theorem drainStart_lengthCheck : (drainStart s).lengthCheck = s.lengthCheck := rfl
@[simp] theorem drainStart_host : (drainStart s).host = s.host := rfl
@[simp] theorem drainStart_transport : (drainStart s).transport = s.transport := rfl
end

section
variable (s : State)
@[simp] theorem drainCount_seq : (drainCount s).seq = s.seq := rfl
@[simp] theorem drainCount_rc : (drainCount s).rc = s.rc := rfl
@[simp] theorem drainCount_piv : (drainCount s).piv = s.piv := rfl
@[simp] theorem drainCount_rx : (drainCount s).rx = s.rx := rfl
@[simp] theorem drainCount_tx : (drainCount s).tx = s.tx := rfl
@[simp] theorem drainCount_ctl : (drainCount s).ctl = s.ctl := rfl
@[simp] theorem drainCount_ctx : (drainCount s).ctx = { s.ctx with n := s.ctx.n + 1#32 } := rfl
@[simp] theorem drainCount_lastCond : (drainCount s).lastCond = s.lastCond := rfl
@[simp] theorem drainCount_lastRoute : (drainCount s).lastRoute = s.lastRoute := rfl
@[simp] theorem drainCount_lastRxLen : (drainCount s).lastRxLen = s.lastRxLen := rfl
@[simp] theorem drainCount_txLen : (drainCount s).txLen = s.txLen := rfl
@[simp] theorem drainCount_response : (drainCount s).response = s.response := rfl
@[simp] theorem drainCount_pending : (drainCount s).pending = s.pending := rfl
@[simp] theorem drainCount_lengthCheck : (drainCount s).lengthCheck = s.lengthCheck := rfl
@[simp] theorem drainCount_host : (drainCount s).host = s.host := rfl
@[simp] theorem drainCount_transport : (drainCount s).transport = s.transport := rfl
end

section
variable (cond : Cond) (s : State)
@[simp] theorem eatAllDone_seq : (eatAllDone cond s).seq = s.seq := rfl
@[simp] theorem eatAllDone_rc : (eatAllDone cond s).rc = s.rc := rfl
@[simp] theorem eatAllDone_piv : (eatAllDone cond s).piv = s.piv := rfl
@[simp] theorem eatAllDone_rx : (eatAllDone cond s).rx = s.rx := rfl
@[simp] theorem eatAllDone_tx : (eatAllDone cond s).tx = s.tx := rfl
@[simp] theorem eatAllDone_ctl : (eatAllDone cond s).ctl = .idle := rfl
@[simp] theorem eatAllDone_ctx : (eatAllDone cond s).ctx = s.ctx := rfl
@[simp] theorem eatAllDone_lastCond : (eatAllDone cond s).lastCond = cond := rfl
@[simp] theorem eatAllDone_lastRoute : (eatAllDone cond s).lastRoute = s.lastRoute := rfl
@[simp] theorem eatAllDone_lastRxLen : (eatAllDone cond s).lastRxLen = s.lastRxLen := rfl
@[simp] theorem eatAllDone_txLen : (eatAllDone cond s).txLen = s.txLen := rfl
@[simp] theorem eatAllDone_response : (eatAllDone cond s).response = some { cond := .ok, value := s.ctx.n, route := .none, info := .absent } := rfl
@[simp] theorem eatAllDone_pending : (eatAllDone cond s).pending = s.pending := rfl
@[simp] theorem eatAllDone_lengthCheck : (eatAllDone cond s).lengthCheck = s.lengthCheck := rfl
@[simp] theorem eatAllDone_host : (eatAllDone cond s).host = s.host := rfl
@[simp] theorem eatAllDone_transport : (eatAllDone cond s).transport = s.transport := rfl
end

section
variable (op a8 : Byte) (a16 : Half) (intervalMs : Word) (body : List Byte) (s : State)
@[simp] theorem accepted_seq :
    (accepted op a8 a16 intervalMs body s).seq = s.seq := rfl
@[simp] theorem accepted_rc :
    (accepted op a8 a16 intervalMs body s).rc = s.rc := rfl
@[simp] theorem accepted_piv :
    (accepted op a8 a16 intervalMs body s).piv = s.piv := rfl
@[simp] theorem accepted_rx :
    (accepted op a8 a16 intervalMs body s).rx = s.rx := rfl
@[simp] theorem accepted_tx :
    (accepted op a8 a16 intervalMs body s).tx = s.tx := rfl
@[simp] theorem accepted_ctl :
    (accepted op a8 a16 intervalMs body s).ctl = s.ctl := rfl
@[simp] theorem accepted_ctx :
    (accepted op a8 a16 intervalMs body s).ctx = { op := op, a8 := a8, a16 := a16, intervalMs := intervalMs, body := body, n := s.ctx.n } := rfl
@[simp] theorem accepted_lastCond :
    (accepted op a8 a16 intervalMs body s).lastCond = s.lastCond := rfl
@[simp] theorem accepted_lastRoute :
    (accepted op a8 a16 intervalMs body s).lastRoute = s.lastRoute := rfl
@[simp] theorem accepted_lastRxLen :
    (accepted op a8 a16 intervalMs body s).lastRxLen = s.lastRxLen := rfl
@[simp] theorem accepted_txLen :
    (accepted op a8 a16 intervalMs body s).txLen = s.txLen := rfl
@[simp] theorem accepted_response :
    (accepted op a8 a16 intervalMs body s).response = none := rfl
@[simp] theorem accepted_pending :
    (accepted op a8 a16 intervalMs body s).pending = none := rfl
@[simp] theorem accepted_lengthCheck :
    (accepted op a8 a16 intervalMs body s).lengthCheck = s.lengthCheck := rfl
@[simp] theorem accepted_host :
    (accepted op a8 a16 intervalMs body s).host = s.host := rfl
@[simp] theorem accepted_transport :
    (accepted op a8 a16 intervalMs body s).transport = s.transport := rfl

/-- Acceptance while idle: the command's rule runs. -/
theorem accept_idle (rule : State → State) (h : s.ctl = .idle) :
    accept op a8 a16 intervalMs body rule s = .next (rule (accepted op a8 a16 intervalMs body s)) := if_pos h

/-- A command presented while another is in progress has no move. -/
theorem accept_busy (rule : State → State) (h : s.ctl ≠ .idle) :
    accept op a8 a16 intervalMs body rule s = .fault .commandWhileBusy := if_neg h
end

end Sys2Proof.Machine
end

