-- ==== Sys2Proof/Laws/Codec.lean ====
section
/-!
SUPPORT. What the codec does: `next` writes one counter, `build` writes the frame into TX and nothing else, `tx_frame` of a
body that fits leaves its send outstanding, a receive writes the start of RX, and `parse` reads a header.
-/

namespace Sys2Proof.Machine

/-! ### The sequence counters -/

@[simp] theorem SeqCounters.get_set_same (q : SeqCounters) (c : Channel) (v : Byte) : (q.set c v).get c = v := by
  cases c <;> rfl

theorem SeqCounters.get_set_ne (q : SeqCounters) {c d : Channel} (v : Byte) (h : d ≠ c) :
    (q.set c v).get d = q.get d := by
  cases c <;> cases d <;> first | rfl | exact absurd rfl h

/-- Counters that agree on every channel are equal. -/
theorem SeqCounters.ext_get {p q : SeqCounters} (h : ∀ c, p.get c = q.get c) : p = q := by
  obtain ⟨p0, p1, p2, p3, p4, p5⟩ := p
  obtain ⟨q0, q1, q2, q3, q4, q5⟩ := q
  have h0 := h .command
  have h1 := h .executable
  have h2 := h .hubControl
  have h3 := h .sensorReports
  have h4 := h .wake
  have h5 := h .gyroRotationVector
  simp only [SeqCounters.get] at h0 h1 h2 h3 h4 h5
  subst h0 h1 h2 h3 h4 h5
  rfl

@[simp] theorem SeqCounters.get_executable (q : SeqCounters) : q.get .executable = q.executable := rfl

@[simp] theorem SeqCounters.get_hubControl (q : SeqCounters) : q.get .hubControl = q.hubControl := rfl

/-! ### Building a frame -/

theorem builtHeader_length (len : Nat) (c : Channel) (q : Byte) : (builtHeader len c q).length = Config.hdr := rfl

theorem builtFrame_length (c : Channel) (q : Byte) (body : List Byte) :
    (builtFrame c q body).length = Config.hdr + body.length := by
  simp [builtFrame, builtHeader_length]

/-- What a read of TX gives after a write into it. -/
theorem State.txByte_writeTx (s : State) (base : Nat) (bytes : List Byte) (i : Nat) :
    (s.writeTx base bytes).txByte i =
      if base ≤ i ∧ i < base + bytes.length then bytes.getD (i - base) 0#8 else s.txByte i := by
  simp only [State.txByte, State.writeTx, State.setTx_tx, Buffer.written_write, Buffer.write_epoch]
  split
  · have h : i - base < bytes.length := by omega
    simp [List.getD, h]
  · rfl

/-- The state that `build` leaves when the body fits: its counter risen, header and body in TX. -/
def builtState (c : Channel) (body : List Byte) (s : State) : State :=
  (((s.setSeq (s.seq.set c (s.seq.get c + 1#8))).writeTx 0
    (builtHeader (body.length + Config.hdr) c (s.seq.get c + 1#8))).writeTx Config.hdr body).setTxLen
      (body.length + Config.hdr)

/-- `build` answers: OversizedBody when the body does not fit, else the length and `builtState`. -/
theorem build_eq (c : Channel) (body : List Byte) (s : State) :
    build c body s =
      if Config.txCap < body.length + Config.hdr then none else some (body.length + Config.hdr, builtState c body s) :=
  rfl

section
variable (c : Channel) (body : List Byte) (s : State)
@[simp] theorem builtState_seq : (builtState c body s).seq = s.seq.set c (s.seq.get c + 1#8) := rfl
@[simp] theorem builtState_rc : (builtState c body s).rc = s.rc := rfl
@[simp] theorem builtState_piv : (builtState c body s).piv = s.piv := rfl
@[simp] theorem builtState_rx : (builtState c body s).rx = s.rx := rfl
@[simp] theorem builtState_ctl : (builtState c body s).ctl = s.ctl := rfl
@[simp] theorem builtState_ctx : (builtState c body s).ctx = s.ctx := rfl
@[simp] theorem builtState_lastCond : (builtState c body s).lastCond = s.lastCond := rfl
@[simp] theorem builtState_lastRoute : (builtState c body s).lastRoute = s.lastRoute := rfl
@[simp] theorem builtState_lastRxLen : (builtState c body s).lastRxLen = s.lastRxLen := rfl
@[simp] theorem builtState_txLen : (builtState c body s).txLen = body.length + Config.hdr := rfl
@[simp] theorem builtState_response : (builtState c body s).response = s.response := rfl
@[simp] theorem builtState_pending : (builtState c body s).pending = s.pending := rfl
@[simp] theorem builtState_lengthCheck : (builtState c body s).lengthCheck = s.lengthCheck := rfl
@[simp] theorem builtState_host : (builtState c body s).host = s.host := rfl
@[simp] theorem builtState_transport : (builtState c body s).transport = s.transport := rfl

/-- What TX holds at each offset after `build`. -/
theorem builtState_txByte (i : Nat) :
    (builtState c body s).txByte i =
      if i < Config.hdr then (builtHeader (body.length + Config.hdr) c (s.seq.get c + 1#8)).getD i 0#8
      else if i < body.length + Config.hdr then body.getD (i - Config.hdr) 0#8
      else s.txByte i := by
  have h : (builtState c body s).txByte i =
      (((s.setSeq (s.seq.set c (s.seq.get c + 1#8))).writeTx 0
        (builtHeader (body.length + Config.hdr) c (s.seq.get c + 1#8))).writeTx Config.hdr body).txByte i := rfl
  rw [h, State.txByte_writeTx, State.txByte_writeTx, builtHeader_length]
  have h2 : (s.setSeq (s.seq.set c (s.seq.get c + 1#8))).txByte i = s.txByte i := rfl
  rw [h2]
  by_cases h1 : i < Config.hdr
  · rw [if_neg (by omega), if_pos (by omega), if_pos h1]; rfl
  · by_cases h3 : i < body.length + Config.hdr
    · rw [if_pos (by omega), if_neg h1, if_pos h3]
    · rw [if_neg (by omega), if_neg (by omega), if_neg h1, if_neg h3]

/-- After `build`, `tx[0..L)` is the frame (10_state R26). -/
theorem builtState_txBytes :
    (builtState c body s).txBytes (body.length + Config.hdr) = builtFrame c (s.seq.get c + 1#8) body := by
  have hl : Config.hdr = 4 := rfl
  apply List.ext_getElem
  · rw [State.txBytes_length, builtFrame_length]; omega
  · intro i h1 h2
    rw [State.txBytes_length] at h1
    simp only [State.txBytes, List.getElem_map, List.getElem_range, builtState_txByte]
    rw [builtFrame_length] at h2
    simp only [builtFrame, Nat.add_comm Config.hdr body.length]
    by_cases h3 : i < Config.hdr
    · rw [if_pos h3, List.getElem_append_left (by rw [builtHeader_length]; exact h3)]
      rw [List.getD_eq_getElem]
    · rw [if_neg h3, if_pos h1, List.getElem_append_right (by rw [builtHeader_length]; omega)]
      rw [List.getD_eq_getElem _ _ (by omega)]
      simp [builtHeader_length]

/-- `build` keeps both buffers in canonical form when the body fits. -/
theorem builtState_tx_wf (hs : s.tx.wf Config.txCap = true) (hfit : body.length + Config.hdr ≤ Config.txCap) :
    (builtState c body s).tx.wf Config.txCap = true := by
  have h4 : Config.hdr = 4 := rfl
  have h256 : Config.txCap = 256 := rfl
  refine Buffer.write_wf (Buffer.write_wf hs ?_) (by omega)
  rw [builtHeader_length]
  omega

/-- `tx_frame` of a body that fits: the frame is built and the core is held in the phase (40_codec R88). -/
theorem txFrame_fits (p : Phase) (hfit : body.length + Config.hdr ≤ Config.txCap) :
    txFrame c body p s = (builtState c body s).setCtl p := by
  rw [txFrame, build_eq, if_neg (by omega)]

/-- `tx_frame` of a body that does not fit: OversizedBody, and nothing else is written (40_codec R86). -/
theorem txFrame_oversized (p : Phase) (h : Config.txCap < body.length + Config.hdr) :
    txFrame c body p s = raise .oversizedBody .absent s := by
  rw [txFrame, build_eq, if_pos h]
end

@[simp] theorem State.setCtl_txByte (s : State) (p : Phase) (i : Nat) : (s.setCtl p).txByte i = s.txByte i := rfl

@[simp] theorem State.setCtl_txBytes (s : State) (p : Phase) (n : Nat) : (s.setCtl p).txBytes n = s.txBytes n := rfl

/-! ### A receive -/

/-- What RX holds at each offset after a receive of some bytes (20_memory R40). -/
theorem fillRx_rxByte (bytes : List Byte) (s : State) (i : Nat) :
    (fillRx bytes s).rxByte i = if i < bytes.length then bytes.getD i 0#8 else s.rxByte i := by
  simp only [State.rxByte, fillRx_rx, Buffer.written_write, Buffer.write_epoch]
  by_cases h : i < bytes.length
  · simp [h, List.getD]
  · simp [h]

/-- After a receive, `rx[0..r)` is the received frame (10_state R25). -/
theorem fillRx_rxBytes (bytes : List Byte) (s : State) : (fillRx bytes s).rxBytes bytes.length = bytes := by
  apply List.ext_getElem
  · simp
  · intro i h1 h2
    simp [State.rxBytes, fillRx_rxByte, h2, List.getD]

/-- A failed receive leaves every byte of RX to a new draw (20_memory R41). -/
theorem spoilRx_rxByte (s : State) (i : Nat) : (spoilRx s).rxByte i = Config.rxDraw (s.rx.epoch + 1) i := rfl

/-- A receive within the contract keeps RX in canonical form. -/
theorem fillRx_rx_wf (bytes : List Byte) (s : State) (hs : s.rx.wf Config.rxCap = true)
    (hfit : bytes.length ≤ Config.rxCap) : (fillRx bytes s).rx.wf Config.rxCap = true :=
  Buffer.write_wf hs (by omega)

/-! ### Parse -/

/-- `parse` of a frame with a header (40_codec R90). -/
theorem parse_cons (check : Bool) (b0 b1 c q : Byte) (body : List Byte) :
    parse check (b0 :: b1 :: c :: q :: body) =
      if check = true ∧ declen b0 b1 ≠ Config.hdr + body.length then none
      else some { declen := declen b0 b1, channel := c, sequence := q, body := body } :=
  rfl

/-- The declared length of a header is the number its fourteen bits make (30_encoding R56). -/
theorem headerOf_declared (b0 b1 q : Byte) : (headerOf b0 b1 q).declared.toNat = declen b0 b1 := by
  have h0 := b0.isLt
  simp only [headerOf, declen, BitVec.toNat_append]
  rw [Nat.shiftLeft_eq, Nat.mul_comm]
  exact (Nat.two_pow_add_eq_or_of_lt (i := 8) h0 _).symm

end Sys2Proof.Machine
end

