-- ==== Sys2Proof/Laws/Decode.lean ====
section
/-!
SUPPORT. The byte-order helpers of the decoder and the encoder undo each other (spec 00_scope R11, 20_memory R43,
30_encoding R55, R56, R58, R60).
-/

namespace Sys2Proof

/-- A field of a word as a number. -/
theorem extract_toNat {w : Nat} (v : BitVec w) (k n : Nat) :
    (v.extractLsb' k n).toNat = v.toNat / 2 ^ k % 2 ^ n := by
  simp [Nat.shiftRight_eq_div_pow]

/-- Two fields side by side as a number. -/
theorem append_toNat {m n : Nat} (hi : BitVec m) (lo : BitVec n) : (hi ++ lo).toNat = hi.toNat * 2 ^ n + lo.toNat := by
  rw [BitVec.toNat_append, ← Nat.shiftLeft_add_eq_or_of_lt lo.isLt, Nat.shiftLeft_eq]

theorem ofLe32_toNat (a b c d : Byte) :
    (ofLe32 a b c d).toNat = ((d.toNat * 256 + c.toNat) * 256 + b.toNat) * 256 + a.toNat := by
  simp only [ofLe32, append_toNat, Nat.reducePow]

theorem ofLe16_toNat (a b : Byte) : (ofLe16 a b).toNat = b.toNat * 256 + a.toNat := by
  simp only [ofLe16, append_toNat, Nat.reducePow]

theorem timestampOf_toNat (a b c d e : Byte) :
    (timestampOf a b c d e).toNat
      = (((e.toNat * 256 + d.toNat) * 256 + c.toNat) * 256 + b.toNat) * 256 + a.toNat := by
  simp only [timestampOf, append_toNat, Nat.reducePow]

theorem ofLe32_extract (v : Word) :
    ofLe32 (v.extractLsb' 0 8) (v.extractLsb' 8 8) (v.extractLsb' 16 8) (v.extractLsb' 24 8) = v := by
  have h := v.isLt
  apply BitVec.eq_of_toNat_eq
  simp only [ofLe32_toNat, extract_toNat]
  omega

theorem ofLe16_extract (v : Half) : ofLe16 (v.extractLsb' 0 8) (v.extractLsb' 8 8) = v := by
  have h := v.isLt
  apply BitVec.eq_of_toNat_eq
  simp only [ofLe16_toNat, extract_toNat]
  omega

theorem timestampOf_extract (v : BitVec 40) :
    timestampOf (v.extractLsb' 0 8) (v.extractLsb' 8 8) (v.extractLsb' 16 8) (v.extractLsb' 24 8)
      (v.extractLsb' 32 8) = v := by
  have h := v.isLt
  apply BitVec.eq_of_toNat_eq
  simp only [timestampOf_toNat, extract_toNat]
  omega

theorem le32_ofLe32 (a b c d : Byte) : le32 (ofLe32 a b c d) = [a, b, c, d] := by
  have ha := a.isLt
  have hb := b.isLt
  have hc := c.isLt
  have hd := d.isLt
  simp only [le32, List.cons.injEq, and_true]
  refine ⟨?_, ?_, ?_, ?_⟩ <;> apply BitVec.eq_of_toNat_eq <;> rw [extract_toNat, ofLe32_toNat] <;> omega

theorem le16_ofLe16 (a b : Byte) : le16 (ofLe16 a b) = [a, b] := by
  have ha := a.isLt
  have hb := b.isLt
  simp only [le16, List.cons.injEq, and_true]
  refine ⟨?_, ?_⟩ <;> apply BitVec.eq_of_toNat_eq <;> rw [extract_toNat, ofLe16_toNat] <;> omega

theorem timestampBytes_timestampOf (a b c d e : Byte) : timestampBytes (timestampOf a b c d e) = [a, b, c, d, e] := by
  have ha := a.isLt
  have hb := b.isLt
  have hc := c.isLt
  have hd := d.isLt
  have he := e.isLt
  simp only [timestampBytes, List.cons.injEq, and_true]
  refine ⟨?_, ?_, ?_, ?_, ?_⟩ <;> apply BitVec.eq_of_toNat_eq <;> rw [extract_toNat, timestampOf_toNat] <;> omega

theorem timestampBytes_length (t : BitVec 40) : (timestampBytes t).length = 5 := rfl

/-- The header read back from the two length bytes and the sequence byte it is written as. -/
theorem headerOf_written (h : RxHeader) :
    headerOf (h.declared.extractLsb' 0 8) (h.reserved ++ h.declared.extractLsb' 8 6) h.sequence = h := by
  obtain ⟨d, r, q⟩ := h
  have hd := d.isLt
  have hr := r.isLt
  simp only [headerOf, RxHeader.mk.injEq, and_true]
  constructor <;> apply BitVec.eq_of_toNat_eq <;> simp only [append_toNat, extract_toNat] <;> omega

/-- The first header byte written back. -/
theorem headerOf_low (b0 b1 q : Byte) : (headerOf b0 b1 q).declared.extractLsb' 0 8 = b0 := by
  have h0 := b0.isLt
  apply BitVec.eq_of_toNat_eq
  simp only [headerOf, append_toNat, extract_toNat]
  omega

/-- The second header byte written back, its reserved bits included. -/
theorem headerOf_high (b0 b1 q : Byte) :
    ((headerOf b0 b1 q).reserved ++ (headerOf b0 b1 q).declared.extractLsb' 8 6 : BitVec 8) = b1 := by
  have h0 := b0.isLt
  have h1 := b1.isLt
  apply BitVec.eq_of_toNat_eq
  simp only [headerOf, append_toNat, extract_toNat]
  omega

theorem receivedFrame_headerOf (b0 b1 chan q : Byte) (body : List Byte) :
    receivedFrame (headerOf b0 b1 q) chan body = b0 :: b1 :: chan :: q :: body := by
  rw [receivedFrame, headerOf_low, headerOf_high]
  rfl

@[simp] theorem Channel.ofByte_toByte (c : Channel) : Channel.ofByte c.toByte = some c := by cases c <;> rfl

theorem Channel.toByte_ofByte {b : Byte} {c : Channel} (h : Channel.ofByte b = some c) : c.toByte = b := by
  have h' : ∀ (b : Byte) (c : Channel), Channel.ofByte b = some c → c.toByte = b := by decide
  exact h' b c h

theorem Channel.ofByte_eq_none {b : Byte} : Channel.ofByte b = none ↔ 5 < b.toNat := by
  have h : ∀ b : Byte, Channel.ofByte b = none ↔ 5 < b.toNat := by decide
  exact h b

theorem receivedFrame_length (h : RxHeader) (chan : Byte) (body : List Byte) :
    (receivedFrame h chan body).length = Config.hdr + body.length := by
  simp only [receivedFrame, Config.hdr, List.length_cons]
  omega

theorem RxHeader.fits_iff (check : Bool) (h : RxHeader) (n : Nat) :
    h.fits check n = true ↔ (check = true → h.declared.toNat = 4 + n) ∧ 4 + n ≤ 1024 := by
  simp only [RxHeader.fits, Bool.and_eq_true, decide_eq_true_eq, Bool.or_eq_true, Bool.not_eq_true', beq_iff_eq]
  cases check <;> simp [Config.hdr, Config.rxCap]

/-- What the Host must present is what the decoder does not reject as another transfer (30_encoding R74). -/
theorem isTransfer_iff (b : List Byte) : isTransfer b = true ↔ decodeCommand b ≠ .error .transfer := by
  unfold isTransfer decodeCommand
  split
  · dsimp only
    split
    · rename_i h
      simp only [beq_iff_eq, h, true_iff]
      unfold acceptFields
      dsimp only
      split
      all_goals
        repeat' split
        all_goals simp
    · rename_i h
      simp [h]
  · simp

end Sys2Proof
end

