-- ==== Sys2Proof/Laws/PerInstr.lean ====
section
/-!
SUPPORT. Per instruction: the bytes of a well-formed instruction hold a whole word or header and stay within what carries
them: a command word and its operand bytes (30_encoding R72, R74), TX for a sent frame (20_memory R37, 40_codec R85), RX
for a received one (20_memory R37, R40).
-/

namespace Sys2Proof.Laws.EncodedSize

/-- The most bytes an instruction's encoding can have. -/
def limit (i : Instr) : Nat := if i.isCommand then 65539 else if i.isSent then Config.txCap else Config.rxCap

/-- The encoding of a well-formed instruction has at least the four bytes of a word or header, and at most the limit, under
either value of LENGTH_CHECK. -/
def Statement (i : Instr) : Prop :=
  ∀ check : Bool, i.wf check = true → 4 ≤ (encode i).length ∧ (encode i).length ≤ limit i

/-- A received frame whose header fits its body is within RX. -/
theorem received (check : Bool) (h : RxHeader) (chan : Byte) (body : List Byte) (n : Nat) (hn : body.length = n)
    (hf : h.fits check n = true) :
    4 ≤ (receivedFrame h chan body).length ∧ (receivedFrame h chan body).length ≤ 1024 := by
  have hfit := ((RxHeader.fits_iff check h n).mp hf).2
  rw [receivedFrame_length, hn]
  simp only [Config.hdr]
  omega

/-- A body with its report id. -/
theorem withId (id : Byte) (rest : List Byte) : (id :: rest).length = 1 + rest.length := by
  rw [List.length_cons]
  omega

/-- A SensorReports body with its timestamp and report id. -/
theorem withTimestamp (t : BitVec 40) (id : Byte) (rest : List Byte) :
    (timestampBytes t ++ id :: rest).length = 6 + rest.length := by
  rw [List.length_append, timestampBytes_length, List.length_cons]
  omega

theorem init : Statement .init :=
  fun _ _ => ⟨Nat.le_of_ble_eq_true rfl, Nat.le_of_ble_eq_true rfl⟩

theorem softReset : Statement .softReset :=
  fun _ _ => ⟨Nat.le_of_ble_eq_true rfl, Nat.le_of_ble_eq_true rfl⟩

theorem verifyProductId : Statement .verifyProductId :=
  fun _ _ => ⟨Nat.le_of_ble_eq_true rfl, Nat.le_of_ble_eq_true rfl⟩

theorem enableReport (id : Byte) (intervalMs : Word) : Statement (.enableReport id intervalMs) :=
  fun _ _ => ⟨Nat.le_of_ble_eq_true rfl, Nat.le_of_ble_eq_true rfl⟩

theorem enableRotationVector (intervalMs : Word) : Statement (.enableRotationVector intervalMs) :=
  fun _ _ => ⟨Nat.le_of_ble_eq_true rfl, Nat.le_of_ble_eq_true rfl⟩

theorem sendFrame (chan : Channel) (body : List Byte) : Statement (.sendFrame chan body) :=
  by
  intro _ hw
  simp only [Instr.wf, decide_eq_true_eq] at hw
  simp only [encode, commandBytes, le16, limit, Instr.isCommand, if_true, List.length_cons, List.length_append,
    List.length_nil]
  omega

theorem receivePacket : Statement .receivePacket :=
  fun _ _ => ⟨Nat.le_of_ble_eq_true rfl, Nat.le_of_ble_eq_true rfl⟩

theorem handleOne : Statement .handleOne :=
  fun _ _ => ⟨Nat.le_of_ble_eq_true rfl, Nat.le_of_ble_eq_true rfl⟩

theorem eatOne : Statement .eatOne :=
  fun _ _ => ⟨Nat.le_of_ble_eq_true rfl, Nat.le_of_ble_eq_true rfl⟩

theorem eatAll : Statement .eatAll :=
  fun _ _ => ⟨Nat.le_of_ble_eq_true rfl, Nat.le_of_ble_eq_true rfl⟩

theorem readRx (off : BitVec 10) : Statement (.readRx off) :=
  fun _ _ => ⟨Nat.le_of_ble_eq_true rfl, Nat.le_of_ble_eq_true rfl⟩

theorem readSeq (chan : Channel) : Statement (.readSeq chan) :=
  fun _ _ => ⟨Nat.le_of_ble_eq_true rfl, Nat.le_of_ble_eq_true rfl⟩

theorem readStatus : Statement .readStatus :=
  fun _ _ => ⟨Nat.le_of_ble_eq_true rfl, Nat.le_of_ble_eq_true rfl⟩

theorem softResetFrame (seq : Byte) : Statement (.softResetFrame seq) :=
  fun _ _ => ⟨Nat.le_of_ble_eq_true rfl, Nat.le_of_ble_eq_true rfl⟩

theorem productIdRequest (seq : Byte) : Statement (.productIdRequest seq) :=
  fun _ _ => ⟨Nat.le_of_ble_eq_true rfl, Nat.le_of_ble_eq_true rfl⟩

theorem setFeature (seq id : Byte) (us : Word) : Statement (.setFeature seq id us) :=
  fun _ _ => ⟨Nat.le_of_ble_eq_true rfl, Nat.le_of_ble_eq_true rfl⟩

theorem genericFrame (chan : Channel) (seq : Byte) (body : List Byte) : Statement (.genericFrame chan seq body) :=
  by
  intro _ hw
  have hfit := of_decide_eq_true (Bool.and_eq_true_iff.mp hw).1
  have hlimit : limit (.genericFrame chan seq body) = 256 := rfl
  have hcap : Config.txCap = 256 := rfl
  have hhdr : Config.hdr = 4 := rfl
  simp only [encode, builtFrame, builtHeader, List.length_append, List.length_cons, List.length_nil, hlimit]
  omega

theorem sensorRotationVector (h : RxHeader) (timestamp : BitVec 40) (rest : List Byte) : Statement (.sensorRotationVector h timestamp rest) :=
  fun _ hw => received _ _ _ _ _ (withTimestamp _ _ _) hw

theorem sensorOther (h : RxHeader) (timestamp : BitVec 40) (id : Byte) (rest : List Byte) : Statement (.sensorOther h timestamp id rest) :=
  fun _ hw => received _ _ _ _ _ (withTimestamp _ _ _) ((Bool.and_eq_true_iff.mp hw).1)

theorem advertisement (h : RxHeader) (tlv : List Byte) : Statement (.advertisement h tlv) :=
  fun _ hw => received _ _ _ _ _ (withId _ _) ((Bool.and_eq_true_iff.mp hw).1)

theorem commandOther (h : RxHeader) (id : Byte) (rest : List Byte) : Statement (.commandOther h id rest) :=
  fun _ hw => received _ _ _ _ _ (withId _ _) ((Bool.and_eq_true_iff.mp hw).1)

theorem resetComplete (h : RxHeader) (rest : List Byte) : Statement (.resetComplete h rest) :=
  fun _ hw => received _ _ _ _ _ (withId _ _) hw

theorem executableOther (h : RxHeader) (id : Byte) (rest : List Byte) : Statement (.executableOther h id rest) :=
  fun _ hw => received _ _ _ _ _ (withId _ _) ((Bool.and_eq_true_iff.mp hw).1)

theorem commandResponse (h : RxHeader) (rest : List Byte) : Statement (.commandResponse h rest) :=
  fun _ hw => received _ _ _ _ _ (withId _ _) hw

theorem productIdResponse (h : RxHeader) (rest : List Byte) : Statement (.productIdResponse h rest) :=
  fun _ hw => received _ _ _ _ _ (withId _ _) hw

theorem hubControlOther (h : RxHeader) (id : Byte) (rest : List Byte) : Statement (.hubControlOther h id rest) :=
  fun _ hw => received _ _ _ _ _ (withId _ _) ((Bool.and_eq_true_iff.mp (Bool.and_eq_true_iff.mp hw).1).1)

theorem ignoredChannel (h : RxHeader) (chan : Byte) (rest : List Byte) : Statement (.ignoredChannel h chan rest) :=
  fun _ hw => received _ _ _ _ _ (rfl) ((Bool.and_eq_true_iff.mp hw).1)

theorem noReportId (h : RxHeader) (chan : BitVec 2) (rest : List Byte) : Statement (.noReportId h chan rest) :=
  fun _ hw => received _ _ _ _ _ (rfl) ((Bool.and_eq_true_iff.mp hw).1)

end Sys2Proof.Laws.EncodedSize
end

