-- ==== Sys2Proof/Laws/Step.lean ====
section
/-!
SUPPORT. What a step can do, by whose move it is, and what each shared operation behind it can do: the lemmas that stand
for the definitions in later proofs.
-/

namespace Sys2Proof

/-! ### A decoded frame and its bytes -/

/-- The row of a received frame is the row of those very bytes. -/
theorem receivedRow_encode (h : RxHeader) (chan : Byte) (body : List Byte) :
    (receivedRow h chan body).isReceived = true ∧ encode (receivedRow h chan body) = receivedFrame h chan body := by
  have chan_eq : ∀ n : Nat, chan.toNat = n → chan = BitVec.ofNat 8 n := by
    intro n hn
    apply BitVec.eq_of_toNat_eq
    rw [← hn]
    simp
  unfold receivedRow
  split
  case h_5 => exact ⟨rfl, rfl⟩
  all_goals
    rename_i hc
    obtain rfl := chan_eq _ hc
    split
    all_goals try split_ifs
    all_goals refine ⟨rfl, ?_⟩
    all_goals try subst_vars
    all_goals first | rfl | simp [encode, timestampBytes_timestampOf]

/-- A set-feature body is one that `setFeatureBody` makes. -/
theorem isSetFeatureBody_eq {l : List Byte} (h : isSetFeatureBody l = true) :
    ∃ id b0 b1 b2 b3, l = setFeatureBody id (ofLe32 b0 b1 b2 b3) := by
  unfold isSetFeatureBody at h
  split at h
  · rename_i id f s0 s1 i0 i1 i2 i3 b0 b1 b2 b3 c0 c1 c2 c3
    simp only [Bool.and_eq_true, beq_iff_eq] at h
    obtain ⟨⟨⟨⟨⟨⟨⟨⟨⟨⟨⟨rfl, rfl⟩, rfl⟩, rfl⟩, rfl⟩, rfl⟩, rfl⟩, rfl⟩, rfl⟩, rfl⟩, rfl⟩, rfl⟩ := h
    exact ⟨_, i0, i1, i2, i3, by rw [setFeatureBody, le32_ofLe32]; rfl⟩
  · cases h

/-- The row of a sent frame is the row of those very bytes. -/
theorem sentRow_encode (c : Channel) (q : Byte) (body : List Byte) :
    (sentRow c q body).isSent = true ∧ encode (sentRow c q body) = builtFrame c q body := by
  unfold sentRow
  by_cases hh : hasSentRow c body = true
  · rw [if_pos hh]
    unfold hasSentRow at hh
    split at hh
    · rw [beq_iff_eq] at hh
      subst hh
      exact ⟨rfl, rfl⟩
    · rw [Bool.or_eq_true, beq_iff_eq] at hh
      rcases hh with rfl | hh
      · exact ⟨rfl, rfl⟩
      · obtain ⟨id, b0, b1, b2, b3, rfl⟩ := isSetFeatureBody_eq hh
        rw [setFeatureBody, le32_ofLe32]
        refine ⟨rfl, ?_⟩
        show encode (.setFeature q id (ofLe32 b0 b1 b2 b3)) = _
        simp [encode, setFeatureBody, le32_ofLe32]
    all_goals cases hh
  · rw [if_neg hh]
    exact ⟨rfl, rfl⟩

end Sys2Proof

namespace Sys2Proof.Machine

/-! ### Rows that are frames -/

/-- A row that the core sends runs by the Transport taking its bytes. -/
theorem exec_sent {i : Instr} (h : i.isSent = true) (s : State) : exec i s = transmit (encode i) s := by
  cases i <;> first | rfl | cases h

/-- A row that the core receives runs by the Transport delivering its bytes. -/
theorem exec_received {i : Instr} (h : i.isReceived = true) (s : State) : exec i s = deliver (encode i) s := by
  cases i <;> first | rfl | cases h

/-- Bytes that decode as a received row are that row's. -/
theorem exec_of_decodeReceived {check : Bool} {frame : List Byte} {i : Instr}
    (h : decodeReceived check frame = .ok i) (s : State) :
    exec i s = deliver frame s := by
  unfold decodeReceived at h
  split at h
  · dsimp only at h
    split at h
    · cases h
      rw [exec_received (receivedRow_encode _ _ _).1, (receivedRow_encode _ _ _).2, receivedFrame_headerOf]
    · split at h
      · cases h
      · split at h <;> cases h
  · cases h

/-- Bytes that decode as a sent row are that row's. -/
theorem exec_of_decodeSent {frame : List Byte} {i : Instr} (h : decodeSent frame = .ok i) (s : State) :
    exec i s = transmit frame s := by
  unfold decodeSent at h
  split at h
  · split at h
    · split at h
      · cases h
      · split at h
        · rename_i hh
          cases h
          rw [exec_sent (sentRow_encode _ _ _).1, (sentRow_encode _ _ _).2, builtFrame, hh]
          rfl
        · cases h
    · cases h
  · cases h

/-! ### The core's step, by what it has been handed -/

/-- An agent's step, while the core has been handed nothing. -/
theorem step_agent {s : State} (h : s.pending = none) :
    step s = match s.ctl.heldOn with
      | .host => hostStep s
      | .setup | .send | .receive => transportStep s
      | .wait _ => .next (delayStep s) := by
  cases hh : s.ctl.heldOn <;> simp [step, State.turn, h, hh]

/-- The core's step, once it has been handed an event. -/
theorem step_core {s : State} {ev : Event} (h : s.pending = some ev) :
    step s = match fetch s with
      | .run i => exec i s
      | .ends o => o := by
  have ht : s.turn = .core := by simp [State.turn, h]
  rw [step, ht] <;> rfl

/-- A command was presented. -/
theorem step_presented {s : State} {bytes : List Byte} (h : s.pending = some (.presented bytes)) :
    step s = match decodeCommand bytes with
      | .ok i => exec i s
      | .error .transfer => .fault .commandTransfer
      | .error _ => refuseCommand s := by
  simp only [step_core h, fetch, h, fetchCommand]
  rcases decodeCommand bytes with r | i
  · cases r <;> rfl
  · rfl

/-- A `setup` was answered `Ok`. -/
theorem step_setup_ok {s : State} (h : s.pending = some .answeredOk) (hc : s.ctl.heldOn = .setup) :
    step s = .next (afterSetup s.taken) := by
  simp only [step_core h, fetch, h, fetchAnswered, hc, setupAnswered]

/-- A `setup` was answered `Err(e)`. -/
theorem step_setup_err {s : State} {e : TErr} (h : s.pending = some (.answeredErr e)) (hc : s.ctl.heldOn = .setup) :
    step s = .next (raise .transportError (.transport e) s.taken) := by
  simp [step_core h, fetch, h, fetchAnswered, hc, setupAnswered]

/-- The frame of an answered send goes to the phase that issued it, whatever row it is. -/
theorem step_send {s : State} {ev : Event} {err : Option TErr} (h : s.pending = some ev)
    (hev : ev = (match err with | none => .answeredOk | some e => .answeredErr e)) (hc : s.ctl.heldOn = .send) :
    step s = .next (sendAnswered err s) := by
  have ht : transmit (s.txBytes s.txLen) s = .next (sendAnswered err s) := by
    cases err <;> subst hev <;> simp [transmit, hc, h]
  have hf : fetch s = fetchAnswered err s := by
    cases err <;> subst hev <;> simp [fetch, h, hc]
  rw [step_core h, hf]
  simp only [fetchAnswered, hc]
  cases hd : decodeSent (s.txBytes s.txLen) with
  | error _ => exact ht
  | ok i => exact (exec_of_decodeSent hd s).trans ht

/-- A `send` was answered `Ok`. -/
theorem step_send_ok {s : State} (h : s.pending = some .answeredOk) (hc : s.ctl.heldOn = .send) :
    step s = .next (afterSend s.taken) := step_send (err := none) h rfl hc

/-- A `send` was answered `Err(e)`. -/
theorem step_send_err {s : State} {e : TErr} (h : s.pending = some (.answeredErr e)) (hc : s.ctl.heldOn = .send) :
    step s = .next (raise .transportError (.transport e) s.taken) := step_send (err := some e) h rfl hc

/-- A receive was answered: the bytes go to the phase that issued it, whatever row they are. -/
theorem step_deliver {s : State} {r : Nat} (h : s.pending = some (.received r)) :
    step s = deliver (s.rxBytes r) s := by
  simp only [step_core h, fetch, h, fetchReceived]
  cases hd : decodeReceived s.lengthCheck (s.rxBytes r) with
  | error _ => rfl
  | ok i => exact exec_of_decodeReceived hd s

/-- A frame in RX that fits goes to the phase that issued the receive. -/
theorem deliver_rxBytes {s : State} {r : Nat} (h : s.pending = some (.received r)) (hc : s.ctl.heldOn = .receive) :
    deliver (s.rxBytes r) s =
      if Config.rxCap < r then .fault .receiveOverrun else .next (afterReceiveOk r (recordRx r s)) := by
  simp only [deliver, State.rxBytes_length, h, hc, and_self, if_true]

/-- A `receive` was answered `Ok(r)`. -/
theorem step_received {s : State} {r : Nat} (h : s.pending = some (.received r)) (hc : s.ctl.heldOn = .receive)
    (hfit : r ≤ Config.rxCap) : step s = .next (afterReceiveOk r (recordRx r s)) := by
  rw [step_deliver h, deliver_rxBytes h hc, if_neg (by omega)]

/-- A `receive` was answered `Err(e)`. -/
theorem step_receive_err {s : State} {e : TErr} (h : s.pending = some (.answeredErr e))
    (hc : s.ctl.heldOn = .receive) : step s = .next (afterReceiveErr e (recordRx 0 s)) := by
  simp [step_core h, fetch, h, hc, failReceive]

/-- A wait was completed. -/
theorem step_waited {s : State} {n : Nat} (h : s.pending = some .waited) (hc : s.ctl.heldOn = .wait n) :
    step s = .next (afterWait s.taken) := by
  simp [step_core h, fetch, h, hc]

/-- A row that arrived in RX runs as the bytes of RX do. -/
theorem deliver_next {s t : State} {frame : List Byte} (h : deliver frame s = .next t) :
    s.ctl.heldOn = .receive ∧ s.pending = some (.received frame.length) ∧ s.rxBytes frame.length = frame
      ∧ frame.length ≤ Config.rxCap ∧ t = afterReceiveOk frame.length (recordRx frame.length s) := by
  unfold deliver at h
  split at h
  · rename_i hp
    split at h
    · cases h
    · injection h with h
      exact ⟨hp.1, hp.2.1, hp.2.2, by omega, h.symm⟩
  · cases h

/-- A received row that arrived within the contract runs (20_memory R40). -/
theorem deliver_arrived {s : State} {frame : List Byte} (hc : s.ctl.heldOn = .receive)
    (hp : s.pending = some (.received frame.length)) (hb : s.rxBytes frame.length = frame)
    (hfit : frame.length ≤ Config.rxCap) :
    deliver frame s = .next (afterReceiveOk frame.length (recordRx frame.length s)) := by
  rw [deliver, if_pos ⟨hc, hp, hb⟩, if_neg (by omega)]

/-! ### The Transport's answers change the Transport alone -/

theorem takeSetup_state (s : State) : ∃ v, s.takeSetup.2 = s.setTransport v := by
  unfold State.takeSetup
  split <;> exact ⟨_, rfl⟩

theorem takeSend_state (s : State) : ∃ v, s.takeSend.2 = s.setTransport v := by
  unfold State.takeSend
  split <;> exact ⟨_, rfl⟩

theorem takeReceive_state (s : State) : ∃ v, s.takeReceive.2 = s.setTransport v := by
  unfold State.takeReceive
  split <;> exact ⟨_, rfl⟩

/-! ### The operations behind the phases -/

/-- A set-feature body has 17 bytes (30_encoding R67). -/
theorem setFeatureBody_length (id : Byte) (us : Word) : (setFeatureBody id us).length = 17 := rfl

/-- The two frames of INIT and the request of VERIFY_PRODUCT_ID fit. -/
theorem verifyStart_eq (p : Phase) (s : State) :
    verifyStart p s = (builtState .hubControl productIdRequestBody s).setCtl p :=
  txFrame_fits _ _ _ _ (by decide)

theorem afterSetup_eq (s : State) :
    afterSetup s = (builtState .executable softResetBody s).setCtl .initResetTx :=
  txFrame_fits _ _ _ _ (by decide)

theorem enable_eq (id : Byte) (intervalMs : Word) (s : State) :
    enable id intervalMs s
      = (builtState .hubControl (setFeatureBody id (intervalUs intervalMs)) s).setCtl .enableTx :=
  txFrame_fits _ _ _ _ (by rw [setFeatureBody_length]; decide)

/-- A body either fits and its frame is issued, or OversizedBody ends the command. -/
theorem txFrame_cases (c : Channel) (body : List Byte) (p : Phase) (s : State) :
    (body.length + Config.hdr ≤ Config.txCap ∧ txFrame c body p s = (builtState c body s).setCtl p)
      ∨ (Config.txCap < body.length + Config.hdr ∧ txFrame c body p s = raise .oversizedBody .absent s) := by
  by_cases h : Config.txCap < body.length + Config.hdr
  · exact .inr ⟨h, txFrame_oversized _ _ _ _ h⟩
  · exact .inl ⟨by omega, txFrame_fits _ _ _ _ (by omega)⟩

/-- What `route` can do: nothing, or set one flag for the one frame that sets it (41_dispatch R103, R106). -/
theorem route_state (v : View) (s : State) :
    (route v s).2.2 = s
      ∨ ((route v s).2.2 = setResetComplete s ∧ v.channel.toNat = 1 ∧ v.body[0]? = some Config.resetCompleteId)
      ∨ ((route v s).2.2 = setProductIdVerified s ∧ v.channel.toNat = 2
          ∧ v.body[0]? = some Config.productIdResponseId) := by
  unfold route
  split
  · exact .inl rfl
  · split
    · split
      · exact .inl rfl
      · split <;> exact .inl rfl
    · split
      · exact .inl rfl
      · rename_i hlt h3 _ id hid
        split
        · split
          · split <;> exact .inl rfl
          · exact .inl rfl
        · split
          · split
            · rename_i h1 hr
              exact .inr (.inl ⟨rfl, h1, by rw [hid, hr]⟩)
            · exact .inl rfl
          · split
            · exact .inl rfl
            · split
              · rename_i h0 h1 _ hr
                exact .inr (.inr ⟨rfl, by omega, by rw [hid, hr]⟩)
              · exact .inl rfl

/-- What a parsed frame is made of. -/
theorem parse_some {check : Bool} {frame : List Byte} {v : View} (h : parse check frame = some v) :
    ∃ b0 b1, frame = b0 :: b1 :: v.channel :: v.sequence :: v.body := by
  unfold parse at h
  split at h
  · split at h
    · cases h
    · cases h
      exact ⟨_, _, rfl⟩
  · cases h

/-- What a HANDLE_ONE that has received can do: it ends with OK, and the only other writes are LAST_COND, LAST_ROUTE and
the flag that the frame sets (41_dispatch R109). -/
theorem handleReceived_cases (r : Nat) (s : State) :
    ∃ cond rt count u, handleReceived r s = handled cond rt count u ∧ (cond = .ok ∨ cond = .corruptFrame)
      ∧ (u = s
        ∨ (u = setResetComplete s ∧ 4 < r ∧ s.rxByte 2 = 0x01#8 ∧ s.rxByte 4 = Config.resetCompleteId)
        ∨ (u = setProductIdVerified s ∧ 4 < r ∧ s.rxByte 2 = 0x02#8 ∧ s.rxByte 4 = Config.productIdResponseId)) := by
  unfold handleReceived
  split
  · exact ⟨_, _, _, _, rfl, .inl rfl, .inl rfl⟩
  · cases hp : parse s.lengthCheck (s.rxBytes r) with
    | none => exact ⟨_, _, _, _, rfl, .inr rfl, .inl rfl⟩
    | some v =>
      obtain ⟨b0, b1, hf⟩ := parse_some hp
      have hbytes : ∀ (i : Nat) (b : Byte), (s.rxBytes r)[i]? = some b → i < r ∧ s.rxByte i = b := by
        intro i b hb
        obtain ⟨hi, hb⟩ := List.getElem?_eq_some_iff.mp hb
        rw [State.rxBytes_length] at hi
        simp only [State.rxBytes, List.getElem_map, List.getElem_range] at hb
        exact ⟨hi, hb⟩
      have hc : s.rxByte 2 = v.channel := (hbytes 2 v.channel (by rw [hf]; rfl)).2
      have chan_eq : ∀ n : Nat, v.channel.toNat = n → v.channel = BitVec.ofNat 8 n := by
        intro n hn
        apply BitVec.eq_of_toNat_eq
        rw [← hn]
        simp
      have hu : (route v s).2.2 = s
          ∨ ((route v s).2.2 = setResetComplete s ∧ 4 < r ∧ s.rxByte 2 = 0x01#8
              ∧ s.rxByte 4 = Config.resetCompleteId)
          ∨ ((route v s).2.2 = setProductIdVerified s ∧ 4 < r ∧ s.rxByte 2 = 0x02#8
              ∧ s.rxByte 4 = Config.productIdResponseId) := by
        rcases route_state v s with h | ⟨h, hn, hid⟩ | ⟨h, hn, hid⟩
        · exact .inl h
        · have h4 := hbytes 4 _ (by rw [hf]; exact hid)
          exact .inr (.inl ⟨h, h4.1, by rw [hc, chan_eq _ hn], h4.2⟩)
        · have h4 := hbytes 4 _ (by rw [hf]; exact hid)
          exact .inr (.inr ⟨h, h4.1, by rw [hc, chan_eq _ hn], h4.2⟩)
      dsimp only
      generalize route v s = w at hu
      rcases w with ⟨rt, _ | _, s1⟩
      · exact ⟨_, _, _, s1, rfl, .inr rfl, hu⟩
      · exact ⟨_, _, _, s1, rfl, .inl rfl, hu⟩

/-- What a verification that has received can do (42_init R112). -/
theorem verifyReceived_cases (r : Nat) (s : State) :
    (verifyReceived r s = complete 0#32 (setProductIdVerified s) ∧ 4 < r ∧ s.rxByte 4 = Config.productIdResponseId)
      ∨ ∃ b, verifyReceived r s = raise .invalidChipIdentity (.identity b) s := by
  unfold verifyReceived
  split
  · split
    · exact .inl ⟨rfl, ‹_›, ‹_›⟩
    · exact .inr ⟨_, rfl⟩
  · exact .inr ⟨_, rfl⟩

/-! ### Host commands -/

/-- What an accepted host command does at once, by its opcode: it waits for an agent, issues a frame, is refused its body,
or answers. -/
inductive CommandStart (s : State) (a8 : Byte) (a16 : Half) (intervalMs : Word) (body : List Byte) :
    Byte → State → Prop
  | init : CommandStart s a8 a16 intervalMs body 0x01#8
      ((accepted 0x01#8 a8 a16 intervalMs body s).setCtl .initSetup)
  | softReset : CommandStart s a8 a16 intervalMs body 0x02#8
      ((builtState .executable softResetBody (accepted 0x02#8 a8 a16 intervalMs body s)).setCtl .softResetTx)
  | verify : CommandStart s a8 a16 intervalMs body 0x03#8
      ((builtState .hubControl productIdRequestBody (accepted 0x03#8 a8 a16 intervalMs body s)).setCtl .verifyTx)
  | enableReport : CommandStart s a8 a16 intervalMs body 0x04#8
      ((builtState .hubControl (setFeatureBody a8 (intervalUs intervalMs))
        (accepted 0x04#8 a8 a16 intervalMs body s)).setCtl .enableTx)
  | enableRotationVector : CommandStart s a8 a16 intervalMs body 0x05#8
      ((builtState .hubControl (setFeatureBody Config.rotationVectorId (intervalUs intervalMs))
        (accepted 0x05#8 a8 a16 intervalMs body s)).setCtl .enableTx)
  | send (c : Channel) (hc : a8 = c.toByte) (hfit : body.length + Config.hdr ≤ Config.txCap) :
      CommandStart s a8 a16 intervalMs body 0x06#8
        ((builtState c body (accepted 0x06#8 a8 a16 intervalMs body s)).setCtl .sendTx)
  | oversized (h : Config.txCap < body.length + Config.hdr) : CommandStart s a8 a16 intervalMs body 0x06#8
      (raise .oversizedBody .absent (accepted 0x06#8 a8 a16 intervalMs body s))
  | receive : CommandStart s a8 a16 intervalMs body 0x07#8
      ((accepted 0x07#8 a8 a16 intervalMs body s).setCtl .recvRx)
  | handle : CommandStart s a8 a16 intervalMs body 0x08#8
      ((accepted 0x08#8 a8 a16 intervalMs body s).setCtl .handleRx)
  | eatOne : CommandStart s a8 a16 intervalMs body 0x09#8
      ((accepted 0x09#8 a8 a16 intervalMs body s).setCtl .eatRx)
  | eatAll : CommandStart s a8 a16 intervalMs body 0x0A#8
      ((drainStart (accepted 0x0A#8 a8 a16 intervalMs body s)).setCtl .eatAllRx)
  | read (op : Byte) (value : Word) : CommandStart s a8 a16 intervalMs body op
      (respond .ok value .none .absent (accepted op a8 a16 intervalMs body s))

/-- A next state of a host command is the one its acceptance in the idle core leads to. -/
theorem accept_next {op a8 : Byte} {a16 : Half} {ms : Word} {body : List Byte} {rule : State → State} {s t : State}
    (ht : accept op a8 a16 ms body rule s = .next t) :
    s.ctl = .idle ∧ t = rule (accepted op a8 a16 ms body s) := by
  unfold accept at ht
  split at ht
  · injection ht with ht
    exact ⟨‹_›, ht.symm⟩
  · cases ht

/-- What a host command can do: it runs in the idle core and starts as `CommandStart` says. -/
theorem exec_command {s t : State} {i : Instr} (hi : i.isCommand = true) (ht : exec i s = .next t) :
    s.ctl = .idle ∧ ∃ op a8 a16 intervalMs body, CommandStart s a8 a16 intervalMs body op t := by
  cases i <;> first
    | (cases hi; done)
    | simp only [exec, execInit, execSoftReset, execVerifyProductId, execEnableReport, execEnableRotationVector,
        execSendFrame, execReceivePacket, execHandleOne, execEatOne, execEatAll, execReadRx, execReadSeq,
        execReadStatus, acceptPlain] at ht
  all_goals obtain ⟨hidle, rfl⟩ := accept_next ht
  all_goals refine ⟨hidle, ?_⟩
  · exact ⟨_, _, _, _, _, .init⟩
  · rw [txFrame_fits _ _ _ _ (by decide)]
    exact ⟨_, _, _, _, _, .softReset⟩
  · rw [verifyStart_eq]
    exact ⟨_, _, _, _, _, .verify⟩
  · rw [enable_eq]
    exact ⟨_, _, _, _, _, .enableReport⟩
  · rw [enable_eq]
    exact ⟨_, _, _, _, _, .enableRotationVector⟩
  · rename_i c body
    rcases txFrame_cases c body .sendTx
      (accepted 0x06#8 (channelField c) (lengthField body) 0#32 body s) with ⟨hfit, h⟩ | ⟨hover, h⟩ <;> rw [h]
    · exact ⟨_, _, _, _, _, .send c rfl hfit⟩
    · exact ⟨_, _, _, _, _, .oversized hover⟩
  · exact ⟨_, _, _, _, _, .receive⟩
  · exact ⟨_, _, _, _, _, .handle⟩
  · exact ⟨_, _, _, _, _, .eatOne⟩
  · exact ⟨_, _, _, _, _, .eatAll⟩
  all_goals exact ⟨_, _, _, _, _, .read _ _⟩

/-- Bytes that decode as a command are a command. -/
theorem decodeCommand_isCommand {bytes : List Byte} {i : Instr} (h : decodeCommand bytes = .ok i) :
    i.isCommand = true := by
  unfold decodeCommand at h
  split at h
  · dsimp only at h
    split at h
    · unfold acceptFields at h
      dsimp only at h
      split at h
      all_goals
        repeat' split at h
        all_goals cases h
        all_goals rfl
    · cases h
  · cases h

/-! ### Everything a step can do -/

/-- The moves of the machine: whose step it was, and the state it led to. -/
inductive Move (s : State) : State → Prop
  | rest : Move s s
  | reset (rest : List HostEvent) (hp : s.pending = none) (hc : s.ctl = .idle) (hh : s.host = .hardwareReset :: rest) :
      Move s (hardwareReset (s.setHost rest))
  | presented (bytes : List Byte) (rest : List HostEvent) (hp : s.pending = none) (hc : s.ctl = .idle)
      (ht : isTransfer bytes = true) : Move s ((s.setHost rest).setPending (some (.presented bytes)))
  | silent (v : Transport) (hp : s.pending = none) : Move s (s.setTransport v)
  | answered (v : Transport) (ev : Event) (hp : s.pending = none) (hc : s.ctl.heldOn = .setup ∨ s.ctl.heldOn = .send)
      (hev : ev = .answeredOk ∨ ∃ e, ev = .answeredErr e) : Move s ((s.setTransport v).setPending (some ev))
  | filled (v : Transport) (frame : List Byte) (hp : s.pending = none) (hc : s.ctl.heldOn = .receive)
      (hfit : frame.length ≤ Config.rxCap) :
      Move s ((fillRx frame (s.setTransport v)).setPending (some (.received frame.length)))
  | spoiled (v : Transport) (e : TErr) (hp : s.pending = none) (hc : s.ctl.heldOn = .receive) :
      Move s ((spoilRx (s.setTransport v)).setPending (some (.answeredErr e)))
  | delayed (n : Nat) (hp : s.pending = none) (hc : s.ctl.heldOn = .wait n) : Move s (delayStep s)
  | refused (bytes : List Byte) (hp : s.pending = some (.presented bytes)) (hc : s.ctl = .idle) :
      Move s (badCommand s.taken)
  | command {t : State} {op a8 : Byte} {a16 : Half} {intervalMs : Word} {body : List Byte} (bytes : List Byte)
      (hp : s.pending = some (.presented bytes)) (hc : s.ctl = .idle)
      (ht : CommandStart s a8 a16 intervalMs body op t) : Move s t
  | setup (hp : s.pending = some .answeredOk) (hc : s.ctl.heldOn = .setup) : Move s (afterSetup s.taken)
  | sent (hp : s.pending = some .answeredOk) (hc : s.ctl.heldOn = .send) : Move s (afterSend s.taken)
  | failed (e : TErr) (hp : s.pending = some (.answeredErr e)) (hc : s.ctl.heldOn = .setup ∨ s.ctl.heldOn = .send) :
      Move s (raise .transportError (.transport e) s.taken)
  | receiveFailed (e : TErr) (hp : s.pending = some (.answeredErr e)) (hc : s.ctl.heldOn = .receive) :
      Move s (afterReceiveErr e (recordRx 0 s))
  | received (r : Nat) (hp : s.pending = some (.received r)) (hc : s.ctl.heldOn = .receive) (hfit : r ≤ Config.rxCap) :
      Move s (afterReceiveOk r (recordRx r s))
  | waited (n : Nat) (hp : s.pending = some .waited) (hc : s.ctl.heldOn = .wait n) : Move s (afterWait s.taken)

/-- Only an idle core waits for the Host. -/
theorem Phase.heldOn_host {p : Phase} (h : p.heldOn = .host) : p = .idle := by cases p <;> first | rfl | cases h

/-- What the Host's step can lead to. -/
theorem hostStep_move {s t : State} (hp : s.pending = none) (hc : s.ctl = .idle) (h : hostStep s = .next t) :
    Move s t := by
  unfold hostStep at h
  split at h
  · cases h
    exact .rest
  · rename_i hh
    cases h
    exact .reset _ hp hc hh
  · split at h
    · cases h
      exact .presented _ _ hp hc ‹_›
    · cases h

/-- What the Transport's answer to a `setup` or a `send` can lead to. -/
theorem handStatus_move {s : State} {p : StatusAnswer × State} (hv : ∃ v, p.2 = s.setTransport v)
    (hp : s.pending = none) (hc : s.ctl.heldOn = .setup ∨ s.ctl.heldOn = .send) : Move s (handStatus p) := by
  obtain ⟨a, s1⟩ := p
  obtain ⟨v, rfl⟩ := hv
  cases a with
  | silent => exact .silent v hp
  | ok => exact .answered v _ hp hc (.inl rfl)
  | err e => exact .answered v _ hp hc (.inr ⟨e, rfl⟩)

/-- What the Transport's answer to a `receive` can lead to. -/
theorem handReceive_move {s t : State} {p : ReceiveAnswer × State} (hv : ∃ v, p.2 = s.setTransport v)
    (hp : s.pending = none) (hc : s.ctl.heldOn = .receive) (h : handReceive p = .next t) : Move s t := by
  obtain ⟨a, s1⟩ := p
  obtain ⟨v, rfl⟩ := hv
  cases a with
  | silent =>
    cases h
    exact .silent v hp
  | ok frame =>
    simp only [handReceive] at h
    split at h
    · cases h
    · cases h
      exact .filled v frame hp hc (by omega)
  | err e =>
    cases h
    exact .spoiled v e hp hc

/-- A step with a next state is one of the moves. -/
theorem step_move {s t : State} (h : step s = .next t) : Move s t := by
  rcases hp : s.pending with _ | ev
  · rw [step_agent hp] at h
    rcases hh : s.ctl.heldOn with _ | _ | _ | _ | n <;> rw [hh] at h <;> dsimp only at h
    · exact hostStep_move hp (Phase.heldOn_host hh) h
    · simp only [transportStep, hh] at h
      cases h
      exact handStatus_move (takeSetup_state s) hp (.inl hh)
    · simp only [transportStep, hh] at h
      cases h
      exact handStatus_move (takeSend_state s) hp (.inr hh)
    · simp only [transportStep, hh] at h
      exact handReceive_move (takeReceive_state s) hp hh h
    · cases h
      exact .delayed n hp hh
  · cases ev with
    | presented bytes =>
      rw [step_presented hp] at h
      cases hd : decodeCommand bytes with
      | ok i =>
        rw [hd] at h
        obtain ⟨hc, _, _, _, _, _, hk⟩ := exec_command (decodeCommand_isCommand hd) h
        exact .command bytes hp hc hk
      | error r =>
        rw [hd] at h
        have hr : refuseCommand s = .next t := by cases r <;> first | exact h | cases h
        unfold refuseCommand at hr
        split at hr
        · cases hr
          exact .refused bytes hp ‹_›
        · cases hr
    | answeredOk =>
      rcases hh : s.ctl.heldOn with _ | _ | _ | _ | n
      · simp [step_core hp, fetch, hp, fetchAnswered, hh] at h
      · rw [step_setup_ok hp hh] at h
        cases h
        exact .setup hp hh
      · rw [step_send_ok hp hh] at h
        cases h
        exact .sent hp hh
      · simp [step_core hp, fetch, hp, fetchAnswered, hh] at h
      · simp [step_core hp, fetch, hp, fetchAnswered, hh] at h
    | received r =>
      rw [step_deliver hp] at h
      obtain ⟨hc, -, -, hfit, rfl⟩ := deliver_next h
      rw [State.rxBytes_length] at hfit ⊢
      exact .received r hp hc hfit
    | answeredErr e =>
      rcases hh : s.ctl.heldOn with _ | _ | _ | _ | n
      · simp [step_core hp, fetch, hp, fetchAnswered, hh] at h
      · rw [step_setup_err hp hh] at h
        cases h
        exact .failed e hp (.inl hh)
      · rw [step_send_err hp hh] at h
        cases h
        exact .failed e hp (.inr hh)
      · rw [step_receive_err hp hh] at h
        cases h
        exact .receiveFailed e hp hh
      · simp [step_core hp, fetch, hp, fetchAnswered, hh] at h
    | waited =>
      rcases hh : s.ctl.heldOn with _ | _ | _ | _ | n
      case wait =>
        rw [step_waited hp hh] at h
        cases h
        exact .waited n hp hh
      all_goals simp [step_core hp, fetch, hp, hh] at h

/-! ### The parameter -/

theorem afterReceiveOk_lengthCheck (r : Nat) (s : State) : (afterReceiveOk r s).lengthCheck = s.lengthCheck := by
  have hv : (verifyReceived r s).lengthCheck = s.lengthCheck := by
    rcases verifyReceived_cases r s with ⟨h, -⟩ | ⟨b, h⟩ <;> rw [h] <;> rfl
  have hh : (handleReceived r s).lengthCheck = s.lengthCheck := by
    obtain ⟨_, _, _, u, h, -, hu⟩ := handleReceived_cases r s
    rw [h]
    rcases hu with rfl | ⟨rfl, -⟩ | ⟨rfl, -⟩ <;> rfl
  unfold afterReceiveOk
  split <;> first | rfl | exact hv | exact hh | (split <;> simp [verifyStart_eq])

theorem afterReceiveErr_lengthCheck (e : TErr) (s : State) : (afterReceiveErr e s).lengthCheck = s.lengthCheck := by
  unfold afterReceiveErr
  split <;> simp [verifyStart_eq]

/-- LENGTH_CHECK is a parameter: no step changes it (00_scope R9, log 7). -/
theorem step_lengthCheck {s t : State} (h : step s = .next t) : t.lengthCheck = s.lengthCheck := by
  cases step_move h with
  | setup => simp [afterSetup_eq]
  | sent => unfold afterSend; split <;> rfl
  | waited => unfold afterWait; split <;> rfl
  | receiveFailed => simp [afterReceiveErr_lengthCheck]
  | received => simp [afterReceiveOk_lengthCheck]
  | command _ _ _ ht => cases ht <;> simp
  | _ => rfl

end Sys2Proof.Machine
end

