-- ==== Sys2Proof/Tests/Slice0.lean ====
section
/-!
SUPPORT. Our own tests. The expected results are those of spec 95_test_vectors or written out from the encodings of
30_encoding; each test names its source. First the words and frames, then the smoke test of well-formedness, then single
steps, then a witness for the hypotheses of each statement.
-/

namespace Sys2Proof.Tests

open Sys2Proof Sys2Proof.Machine

/-! ### Helpers -/

/-- Bytes from numbers. -/
def bytes (l : List Nat) : List Byte := l.map (BitVec.ofNat 8)

/-- A received header with both reserved bits 0. -/
def hdrOf (len seq : Nat) : RxHeader :=
  { declared := BitVec.ofNat 14 len, reserved := 0#2, sequence := BitVec.ofNat 8 seq }

/-- The reset state with a command handed to the core. -/
def presenting (l : List Nat) : State := State.reset.setPending (some (.presented (bytes l)))

/-- The reset state with a command that the Host is about to present. -/
def hosting (l : List Nat) : State := State.reset.setHost [.present (bytes l)]

/-- The reset state held in a phase, with the Transport's answers to come. -/
def held (p : Phase) (setups sends : List StatusAnswer) (receives : List ReceiveAnswer) : State :=
  (State.reset.setCtl p).setTransport { setups := setups, sends := sends, receives := receives, asked := 0 }

/-- The reset state held in a phase, its answer handed to the core. -/
def handed (p : Phase) (ev : Event) : State := (State.reset.setCtl p).setPending (some ev)

/-- A state held on a receive that the Transport has answered with the bytes. -/
def receiving (p : Phase) (l : List Nat) : State := fillRx (bytes l) (handed p (.received l.length))

/-- A state whose frame in TX is the answered send. -/
def sending (p : Phase) (l : List Nat) (ev : Event) : State :=
  ((handed p ev).writeTx 0 (bytes l)).setTxLen l.length

/-- The outcome is a next state with a property. -/
def nextHas (o : Out) (p : State → Bool) : Bool :=
  match o with
  | .next t => p t
  | .fault _ => false
  | .refused _ => false

/-- The step answers the Host so, and leaves the core idle. -/
def answers (o : Out) (c : Cond) (v : Nat) (r : Route) (i : Info) : Bool :=
  nextHas o fun t => t.response == some { cond := c, value := BitVec.ofNat 32 v, route := r, info := i } && t.ctl == .idle

/-- The step issues the frame in the phase. -/
def sends (o : Out) (p : Phase) (l : List Nat) : Bool :=
  nextHas o fun t => t.ctl == p && t.request == some (.send (bytes l))

/-! ### Words and frames (95_test_vectors sections 2 and 3, 30_encoding R72 to R74, 41_dispatch) -/

theorem test_decode_init : decodeTableWord 32 0x00000001 = some .init := by decide
theorem test_decode_softReset : decodeTableWord 32 0x00000002 = some .softReset := by decide
theorem test_decode_verifyProductId : decodeTableWord 32 0x00000003 = some .verifyProductId := by decide
theorem test_decode_enableReport :
    decodeCommand (bytes [0x04, 0x03, 0x00, 0x00, 0x38, 0x89, 0x41, 0x00]) = .ok (.enableReport 0x03#8 4294968#32) := by
  decide
theorem test_decode_enableRotationVector :
    decodeCommand (bytes [0x05, 0x00, 0x00, 0x00, 0x64, 0x00, 0x00, 0x00]) = .ok (.enableRotationVector 100#32) := by
  decide
theorem test_decode_sendFrame :
    decodeCommand (bytes [0x06, 0x01, 0x01, 0x00, 0x77]) = .ok (.sendFrame .executable [0x77#8]) := by decide
theorem test_decode_receivePacket : decodeTableWord 32 0x00000007 = some .receivePacket := by decide
theorem test_decode_handleOne : decodeTableWord 32 0x00000008 = some .handleOne := by decide
theorem test_decode_eatOne : decodeTableWord 32 0x00000009 = some .eatOne := by decide
theorem test_decode_eatAll : decodeTableWord 32 0x0000000A = some .eatAll := by decide
theorem test_decode_readRx : decodeCommand (bytes [0x0B, 0x00, 0xFF, 0x03]) = .ok (.readRx 1023#10) := by decide
theorem test_decode_readSeq : decodeCommand (bytes [0x0C, 0x05, 0x00, 0x00]) = .ok (.readSeq .gyroRotationVector) := by
  decide
theorem test_decode_readStatus : decodeTableWord 32 0x0000000D = some .readStatus := by decide
theorem test_decode_softResetFrame :
    decodeSent (bytes [0x05, 0x00, 0x01, 0x42, 0x01]) = .ok (.softResetFrame 0x42#8) := by decide
theorem test_decode_productIdRequest :
    decodeSent (bytes [0x06, 0x00, 0x02, 0x04, 0xF9, 0x00]) = .ok (.productIdRequest 0x04#8) := by decide
theorem test_decode_setFeature :
    decodeSent (bytes [0x15, 0x00, 0x02, 0x01, 0xFD, 0x05, 0x00, 0x00, 0x00, 0xA0, 0x86, 0x01, 0x00,
      0x00, 0x00, 0x00, 0x00, 0x00, 0x00, 0x00, 0x00]) = .ok (.setFeature 0x01#8 0x05#8 100000#32) := by decide
theorem test_decode_genericFrame :
    decodeSent (bytes [0x06, 0x00, 0x03, 0x11, 0xAA, 0xBB])
      = .ok (.genericFrame .sensorReports 0x11#8 [0xAA#8, 0xBB#8]) := by decide
theorem test_decode_sensorRotationVector :
    decodeReceived true (bytes [0x0A, 0x00, 0x03, 0x00, 0x01, 0x02, 0x03, 0x04, 0x05, 0x05])
      = .ok (.sensorRotationVector (hdrOf 10 0) 0x0504030201#40 []) := by decide
theorem test_decode_sensorOther :
    decodeReceived true (bytes [0x0A, 0x00, 0x03, 0x00, 0x01, 0x02, 0x03, 0x04, 0x05, 0x06])
      = .ok (.sensorOther (hdrOf 10 0) 0x0504030201#40 0x06#8 []) := by decide
theorem test_decode_advertisement :
    decodeReceived true (bytes [0x0B, 0x00, 0x00, 0x00, 0x00, 0x01, 0x02, 0xAA, 0xBB, 0x02, 0x00])
      = .ok (.advertisement (hdrOf 11 0) (bytes [0x01, 0x02, 0xAA, 0xBB, 0x02, 0x00])) := by decide
theorem test_decode_commandOther :
    decodeReceived true (bytes [0x05, 0x00, 0x00, 0x00, 0x07]) = .ok (.commandOther (hdrOf 5 0) 0x07#8 []) := by decide
theorem test_decode_resetComplete :
    decodeReceived true (bytes [0x05, 0xC0, 0x01, 0x00, 0x01])
      = .ok (.resetComplete { declared := 5#14, reserved := 3#2, sequence := 0#8 } []) := by decide
theorem test_decode_executableOther :
    decodeReceived true (bytes [0x05, 0x00, 0x01, 0x00, 0x02]) = .ok (.executableOther (hdrOf 5 0) 0x02#8 []) := by decide
theorem test_decode_commandResponse :
    decodeReceived true (bytes [0x07, 0x00, 0x02, 0x00, 0xF1, 0x00, 0x84])
      = .ok (.commandResponse (hdrOf 7 0) (bytes [0x00, 0x84])) := by decide
theorem test_decode_productIdResponse :
    decodeReceived true (bytes [0x05, 0x40, 0x02, 0x00, 0xF8])
      = .ok (.productIdResponse { declared := 5#14, reserved := 1#2, sequence := 0#8 } []) := by decide
theorem test_decode_hubControlOther :
    decodeReceived true (bytes [0x06, 0x00, 0x02, 0x00, 0xF9, 0x00]) = .ok (.hubControlOther (hdrOf 6 0) 0xF9#8 [0x00#8]) := by
  decide
theorem test_decode_ignoredChannel :
    decodeReceived true (bytes [0x04, 0x00, 0xFF, 0x00]) = .ok (.ignoredChannel (hdrOf 4 0) 0xFF#8 []) := by decide
theorem test_decode_noReportId :
    decodeReceived true (bytes [0x09, 0x00, 0x03, 0x00, 0x01, 0x02, 0x03, 0x04, 0x05])
      = .ok (.noReportId (hdrOf 9 0) 3#2 (bytes [0x01, 0x02, 0x03, 0x04, 0x05])) := by decide

/-- The illegal words of 95_test_vectors 2.9. -/
theorem test_decode_illegal :
    [0x00000000, 0x0000000E, 0x000000FF, 0x00000101, 0x00010001, 0x00000100, 0x00010004, 0x00010005, 0x00000606,
      0x0000060C, 0x0400000B, 0x0001000D, 0x01000008].map (decodeTableWord 32) = List.replicate 13 none := by decide

/-- Bytes that are no frame are refused by name (40_codec R91, R92, 41_dispatch R101). -/
theorem test_decode_rejects :
    decodeReceived true (bytes [0x05, 0x00, 0x01]) = .error .shortFrame
      ∧ decodeReceived true (bytes [0x06, 0x00, 0x01, 0x00, 0x01]) = .error .lengthMismatch
      ∧ decodeReceived true (bytes [0x07, 0x00, 0x00, 0x00, 0x00, 0xAA, 0x01]) = .error .malformedAdvertisement
      ∧ decodeSent (bytes [0x05, 0x00, 0x06, 0x00, 0x01]) = .error .notBuilt
      ∧ decodeCommand (bytes [0x04, 0x05, 0x00, 0x00, 0x64]) = .error .transfer
      ∧ decodeCommand (bytes [0x00, 0x00, 0x00, 0x00]) = .error .badCommand := by decide

/-- A word longer than 32 bits is a wire frame: the rows the core sends first (log 13). -/
theorem test_decode_table_frames :
    decodeTableWord 40 0x0142010005 = some (.softResetFrame 0x42#8)
      ∧ decodeTableWord 40 0x0200010005 = some (.executableOther (hdrOf 5 0) 0x02#8 []) := by decide

/-- The six command words of 95_test_vectors whose placement must run, and one frame of each direction. -/
theorem test_placed_words_run :
    nextHas (step (State.reset.withFetchWord 32 0x00000001)) (fun t => t.ctl == .initSetup) = true
      ∧ nextHas (step (State.reset.withFetchWord 40 0x0142010005)) (fun t => t.ctl == .idle && t.lastCond == .ok) = true
      ∧ nextHas (step (State.reset.withFetchWord 40 0xF800020005)) (fun t => t.piv) = true := by decide

/-! ### Well-formedness: an ill-formed term for each check -/

theorem smoke_sendFrame : (Instr.sendFrame .command (List.replicate 65536 0#8)).wf true = false := by
  rw [Instr.wf, List.length_replicate]
  rfl
theorem smoke_genericFrame_length : (Instr.genericFrame .command 0#8 (List.replicate 253 0#8)).wf true = false := by
  rw [Instr.wf, List.length_replicate]
  rfl
theorem smoke_genericFrame_row :
    (Instr.genericFrame .executable 0#8 [0x01#8]).wf true = false
      ∧ (Instr.genericFrame .hubControl 0#8 [0xF9#8, 0x00#8]).wf true = false
      ∧ (Instr.genericFrame .hubControl 0#8 (setFeatureBody 5#8 7#32)).wf true = false := by decide
theorem smoke_declared : (Instr.resetComplete (hdrOf 6 0) []).wf true = false := by decide
theorem smoke_capacity : (Instr.ignoredChannel (hdrOf 1025 0) 9#8 (List.replicate 1021 0#8)).wf true = false := by
  rw [Instr.wf, List.length_replicate]
  rfl
theorem smoke_sensorRotationVector : (Instr.sensorRotationVector (hdrOf 9 0) 0#40 []).wf true = false := by decide
theorem smoke_sensorOther : (Instr.sensorOther (hdrOf 10 0) 0#40 0x05#8 []).wf true = false := by decide
theorem smoke_advertisement : (Instr.advertisement (hdrOf 6 0) [0xAA#8]).wf true = false := by decide
theorem smoke_commandOther : (Instr.commandOther (hdrOf 5 0) 0x00#8 []).wf true = false := by decide
theorem smoke_executableOther : (Instr.executableOther (hdrOf 5 0) 0x01#8 []).wf true = false := by decide
theorem smoke_hubControlOther :
    (Instr.hubControlOther (hdrOf 5 0) 0xF1#8 []).wf true = false ∧ (Instr.hubControlOther (hdrOf 5 0) 0xF8#8 []).wf true = false := by
  decide
theorem smoke_ignoredChannel : (Instr.ignoredChannel (hdrOf 4 0) 3#8 []).wf true = false := by decide
theorem smoke_noReportId :
    (Instr.noReportId (hdrOf 5 0) 1#2 [0x01#8]).wf true = false
      ∧ (Instr.noReportId (hdrOf 10 0) 3#2 (List.replicate 6 0#8)).wf true = false := by decide

/-! ### Single steps: the other agents (00_scope R6, 60_exceptions R150) -/

theorem test_step_host_presents :
    nextHas (step (hosting [8, 0, 0, 0])) (fun t =>
      t.pending == some (.presented (bytes [8, 0, 0, 0])) && t.turn == .core && t.ctl == .idle) = true := by decide
theorem test_step_transport_fills_rx :
    nextHas (step (held .handleRx [] [] [.ok (bytes [5, 0, 1, 0, 1])])) (fun t =>
      t.pending == some (.received 5) && t.rxByte 4 == 1#8 && t.lastRxLen == 0#11 && !t.rc) = true := by decide
theorem test_step_delay_completes :
    nextHas (step (held .initWaitReset [] [] [])) (fun t => t.turn == .core && t.ctl == .initWaitReset) = true := by decide

/-! ### Single steps: host commands (95_test_vectors 2.1, 2.6 to 2.9) -/

theorem test_step_init : nextHas (step (presenting [1, 0, 0, 0])) (fun t => t.request == some (.setup true)) = true := by
  decide
theorem test_step_softReset_wraps :
    sends (step ((presenting [2, 0, 0, 0]).setSeq (SeqCounters.zero.set .executable 0xFF#8))) .softResetTx
      [0x05, 0x00, 0x01, 0x00, 0x01] = true := by decide
theorem test_step_verifyProductId :
    sends (step ((presenting [3, 0, 0, 0]).setSeq (SeqCounters.zero.set .hubControl 3#8))) .verifyTx
      [0x06, 0x00, 0x02, 0x04, 0xF9, 0x00] = true := by decide
theorem test_step_enableReport_wraps :
    sends (step (presenting [4, 3, 0, 0, 0x38, 0x89, 0x41, 0x00])) .enableTx
      [0x15, 0x00, 0x02, 0x01, 0xFD, 0x03, 0x00, 0x00, 0x00, 0xC0, 0x02, 0x00, 0x00,
        0x00, 0x00, 0x00, 0x00, 0x00, 0x00, 0x00, 0x00] = true := by decide
theorem test_step_enableReport_largest :
    sends (step (presenting [4, 3, 0, 0, 0x37, 0x89, 0x41, 0x00])) .enableTx
      [0x15, 0x00, 0x02, 0x01, 0xFD, 0x03, 0x00, 0x00, 0x00, 0xD8, 0xFE, 0xFF, 0xFF,
        0x00, 0x00, 0x00, 0x00, 0x00, 0x00, 0x00, 0x00] = true := by decide
theorem test_step_enableRotationVector :
    sends (step (presenting [5, 0, 0, 0, 0x64, 0, 0, 0])) .enableTx
      [0x15, 0x00, 0x02, 0x01, 0xFD, 0x05, 0x00, 0x00, 0x00, 0xA0, 0x86, 0x01, 0x00,
        0x00, 0x00, 0x00, 0x00, 0x00, 0x00, 0x00, 0x00] = true := by decide
theorem test_step_sendFrame :
    sends (step (presenting [6, 2, 1, 0, 0])) .sendTx [0x05, 0x00, 0x02, 0x01, 0x00] = true := by decide
theorem test_step_sendFrame_wraps :
    sends (step ((presenting [6, 0, 0, 0]).setSeq (SeqCounters.zero.set .command 0xFF#8))) .sendTx
      [0x04, 0x00, 0x00, 0x00] = true := by decide
theorem test_step_receivePacket :
    nextHas (step (presenting [7, 0, 0, 0])) (fun t => t.ctl == .recvRx && t.request == some .receive) = true := by decide
theorem test_step_handleOne : nextHas (step (presenting [8, 0, 0, 0])) (fun t => t.ctl == .handleRx) = true := by decide
theorem test_step_eatOne : nextHas (step (presenting [9, 0, 0, 0])) (fun t => t.ctl == .eatRx) = true := by decide
theorem test_step_eatAll :
    nextHas (step ((presenting [10, 0, 0, 0]).setCtx { Ctx.zero with n := 9#32 }))
      (fun t => t.ctl == .eatAllRx && t.ctx.n == 0#32) = true := by decide
theorem test_step_readRx :
    answers (step ((presenting [11, 0, 2, 0]).setRx ((Buffer.unwritten 0).write 0 (bytes [5, 0, 1, 2, 1])))) .ok 1 .none
      .absent = true := by decide
theorem test_step_readSeq :
    answers (step ((presenting [12, 1, 0, 0]).setSeq (SeqCounters.zero.set .executable 1#8))) .ok 1 .none .absent = true :=
  by decide
theorem test_step_readStatus :
    answers (step (((((presenting [13, 0, 0, 0]).setRc true).setPiv true).setLastRoute .resetComplete).setLastRxLen 5#11))
      .ok 0x00050053 .none .absent = true := by decide
theorem test_step_readStatus_condition :
    answers (step ((presenting [13, 0, 0, 0]).setLastCond .badCommand)) .ok 0x00000600 .none .absent = true := by decide
theorem test_step_badCommand :
    answers (step (presenting [6, 6, 0, 0])) .badCommand 0 .none .absent = true := by decide

/-! ### Single steps: the frames of both directions (95_test_vectors 2.1 to 2.8) -/

theorem test_step_softResetFrame :
    answers (step (sending .softResetTx [0x05, 0x00, 0x01, 0x42, 0x01] .answeredOk)) .ok 0 .none .absent = true := by decide
theorem test_step_productIdRequest :
    nextHas (step (sending .verifyTx [0x06, 0x00, 0x02, 0x04, 0xF9, 0x00] .answeredOk)) (fun t => t.ctl == .verifyRx) = true := by
  decide
theorem test_step_setFeature_fails :
    answers (step (sending .enableTx (0x15 :: 0 :: 2 :: 1 :: 0xFD :: 5 :: List.replicate 15 0) (.answeredErr TErr.first)))
      .transportError 0 .none (.transport TErr.first) = true := by decide
theorem test_step_genericFrame :
    answers (step (sending .sendTx [0x05, 0x00, 0x02, 0x01, 0x00] .answeredOk)) .ok 5 .none .absent = true := by decide
theorem test_step_sensorRotationVector :
    answers (step (receiving .handleRx [0x0A, 0, 3, 0, 1, 2, 3, 4, 5, 5])) .ok 1 .sensorRotationVector .absent = true := by
  decide
theorem test_step_sensorOther :
    answers (step (receiving .handleRx [0x0A, 0, 3, 0, 1, 2, 3, 4, 5, 6])) .ok 1 .sensorOther .absent = true := by decide
theorem test_step_advertisement :
    answers (step (receiving .handleRx [0x08, 0, 0, 0, 0, 0xAA, 1, 0xBB])) .ok 1 .advertisement .absent = true := by decide
theorem test_step_advertisement_malformed :
    answers (step (receiving .handleRx [0x08, 0, 0, 0, 0, 1, 5, 0xAA])) .ok 0 .none .absent = true := by decide
theorem test_step_commandOther :
    answers (step (receiving .handleRx [5, 0, 0, 0, 7])) .ok 1 .commandOther .absent = true := by decide
theorem test_step_resetComplete :
    nextHas (step (receiving .handleRx [5, 0, 1, 0, 1])) (fun t => t.rc && !t.piv && t.lastRoute == .resetComplete) = true :=
  by decide
theorem test_step_resetComplete_eaten :
    nextHas (step (receiving .eatRx [5, 0, 1, 2, 1])) (fun t => !t.rc && t.rxByte 2 == 1#8 && t.lastRxLen == 5#11) = true :=
  by decide
theorem test_step_executableOther :
    answers (step (receiving .handleRx [5, 0, 1, 0, 2])) .ok 1 .executableOther .absent = true := by decide
theorem test_step_commandResponse :
    answers (step (receiving .handleRx [7, 0, 2, 0, 0xF1, 0, 0x84])) .ok 1 .commandResponse .absent = true := by decide
theorem test_step_productIdResponse :
    nextHas (step (receiving .handleRx [5, 0, 2, 0, 0xF8])) (fun t => t.piv && !t.rc) = true := by decide
theorem test_step_productIdResponse_other_channel :
    nextHas (step (receiving .initVerifyRx [5, 0, 0, 9, 0xF8])) (fun t => t.piv && t.lastCond == .ok) = true := by decide
theorem test_step_hubControlOther :
    answers (step (receiving .handleRx [6, 0, 2, 0, 0xF9, 0])) .ok 1 .hubControlOther .absent = true := by decide
theorem test_step_ignoredChannel :
    nextHas (step (receiving .handleRx [5, 0, 5, 0, 1])) (fun t => !t.rc && t.lastRoute == .ignoredChannel) = true := by
  decide
theorem test_step_noReportId :
    answers (step (receiving .handleRx [4, 0, 3, 0])) .ok 1 .noReportId .absent = true := by decide
theorem test_step_wrong_identity :
    answers (step (receiving .verifyRx [5, 0, 1, 0, 1])) .invalidChipIdentity 0 .none (.identity 1#8) = true := by decide
theorem test_step_length_mismatch :
    nextHas (step (receiving .handleRx [6, 0, 1, 0, 1])) (fun t => !t.rc && t.lastCond == .corruptFrame) = true := by decide

/-- The same five bytes are a reset complete where no length check is made (95_test_vectors 2.2). -/
theorem test_step_unchecked :
    nextHas (step ((receiving .handleRx [6, 0, 1, 0, 1]).setLengthCheck false))
      (fun t => t.rc && t.lastCond == .ok && t.lastRoute == .resetComplete) = true := by decide
theorem test_parse_unchecked :
    parse true (bytes [6, 0, 1, 0, 1]) = none
      ∧ (parse false (bytes [6, 0, 1, 0, 1])).map (fun v => v.declen) = some 6 := by decide

/-! ### Buffers (10_state R27, 20_memory R40) -/

/-- A shorter receive keeps the bytes beyond it (95_test_vectors P-5). -/
theorem test_write_keeps_the_rest :
    (((Buffer.unwritten 0).write 0 (bytes [1, 2, 3, 4])).write 0 (bytes [9, 8])).cells
      = [(0, 9#8), (1, 8#8), (2, 3#8), (3, 4#8)] := by decide
theorem test_write_is_canonical :
    (((Buffer.unwritten 0).write 4 (bytes [1, 2])).write 0 (bytes [9, 8, 7, 6])).wf Config.txCap = true := by decide

/-! ### Witnesses: states and operands that meet the hypotheses of each statement, clause by clause -/

theorem witness_CommandDecodeEncode :
    (Instr.sendFrame .wake (List.replicate 65535 0#8)).isCommand = true
      ∧ (Instr.sendFrame .wake (List.replicate 65535 0#8)).wf true = true := by
  refine ⟨rfl, ?_⟩
  rw [Instr.wf, List.length_replicate]
  rfl

/-- The longest frame RX holds (20_memory R37). -/
def longest : Instr := .ignoredChannel (hdrOf 1024 0) 4#8 (List.replicate 1020 0#8)

theorem longest_wf : longest.wf true = true := by
  rw [longest, Instr.wf, List.length_replicate]
  rfl

theorem longest_length : (encode longest).length = 1024 := by
  rw [longest, encode, receivedFrame]
  simp only [List.length_cons, List.length_replicate]

theorem witness_ReceivedDecodeEncode : longest.isReceived = true ∧ longest.wf true = true := ⟨rfl, longest_wf⟩

theorem witness_SentDecodeEncode :
    (Instr.genericFrame .command 0#8 (List.replicate 252 0#8)).isSent = true
      ∧ (Instr.genericFrame .command 0#8 (List.replicate 252 0#8)).wf true = true := by
  refine ⟨rfl, ?_⟩
  rw [Instr.wf, List.length_replicate]
  rfl

theorem witness_DecodedBytesAreTheEncoding :
    decodeCommand (bytes [1, 0, 0, 0]) = .ok .init
      ∧ decodeReceived true (bytes [4, 0, 4, 0]) = .ok (.ignoredChannel (hdrOf 4 0) 4#8 [])
      ∧ decodeReceived false (bytes [9, 0, 4, 0]) = .ok (.ignoredChannel (hdrOf 9 0) 4#8 [])
      ∧ decodeSent (bytes [4, 0, 0, 0]) = .ok (.genericFrame .command 0#8 []) := by decide

theorem witness_IllegalWordsAreExactlyRefused :
    ([] : List Byte).length = operandCount 0x0E#8 0#16 ∧ (bytes [1, 2, 3, 4]).length = operandCount 0x05#8 1#16
      ∧ (bytes [0x77]).length = operandCount 0x06#8 1#16 := by decide

/-- Each way a word can be illegal, at the first value beyond its range; and the last legal ones. -/
theorem witness_IllegalWord :
    IllegalWord 0x00#8 0#8 0#16 ∧ IllegalWord 0x0E#8 0#8 0#16 ∧ IllegalWord 0x0D#8 1#8 0#16
      ∧ IllegalWord 0x04#8 0#8 1#16 ∧ IllegalWord 0x06#8 6#8 0#16 ∧ IllegalWord 0x0C#8 6#8 0#16
      ∧ IllegalWord 0x0B#8 0#8 1024#16 ∧ ¬ IllegalWord 0x0D#8 0#8 0#16 ∧ ¬ IllegalWord 0x06#8 5#8 0xFFFF#16
      ∧ ¬ IllegalWord 0x0C#8 5#8 0#16 ∧ ¬ IllegalWord 0x0B#8 0#8 1023#16 ∧ ¬ IllegalWord 0x04#8 0xFF#8 0#16 := by
  refine ⟨?_, ?_, ?_, ?_, ?_, ?_, ?_, ?_, ?_, ?_, ?_, ?_⟩ <;> unfold IllegalWord <;> decide

theorem witness_RefusedWordAnswersBadCommand :
    (presenting [6, 6, 0, 0]).ctl = .idle
      ∧ (presenting [6, 6, 0, 0]).pending = some (.presented (commandBytes 0x06#8 0x06#8 0#16 []))
      ∧ ([] : List Byte).length = operandCount 0x06#8 0#16 ∧ IllegalWord 0x06#8 0x06#8 0#16 := by
  unfold IllegalWord
  decide

theorem witness_OtherTransfersHaveNoMove :
    (hosting [1, 0, 0]).ctl = .idle ∧ (hosting [1, 0, 0]).pending = none
      ∧ (hosting [1, 0, 0]).host = .present (bytes [1, 0, 0]) :: []
      ∧ (bytes [1, 0, 0]).length < 4 ∧ (hosting [4, 5, 0, 0, 1, 2, 3]).ctl = .idle
      ∧ (hosting [4, 5, 0, 0, 1, 2, 3]).host = .present (commandBytes 0x04#8 0x05#8 0#16 (bytes [1, 2, 3])) :: []
      ∧ (bytes [1, 2, 3]).length ≠ operandCount 0x04#8 0#16 := by decide

theorem witness_StepRunsDecodedInstruction :
    ((presenting [1, 0, 0, 0]).pending = some (.presented (bytes [1, 0, 0, 0]))
        ∧ decodeCommand (bytes [1, 0, 0, 0]) = .ok .init)
      ∧ ((sending .sendTx [4, 0, 0, 0] .answeredOk).ctl.heldOn = .send
        ∧ (sending .sendTx [4, 0, 0, 0] .answeredOk).pending = some .answeredOk
        ∧ (sending .sendTx [4, 0, 0, 0] (.answeredErr TErr.first)).pending = some (.answeredErr TErr.first)
        ∧ decodeSent ((sending .sendTx [4, 0, 0, 0] .answeredOk).txBytes (sending .sendTx [4, 0, 0, 0] .answeredOk).txLen)
            = .ok (.genericFrame .command 0#8 []))
      ∧ ((receiving .recvRx [4, 0, 4, 0]).pending = some (.received 4)
        ∧ decodeReceived (receiving .recvRx [4, 0, 4, 0]).lengthCheck ((receiving .recvRx [4, 0, 4, 0]).rxBytes 4)
            = .ok (.ignoredChannel (hdrOf 4 0) 4#8 [])) := by decide

theorem witness_HeldCoreTakesNoStep :
    ((held .initSetup [.silent] [] []).pending = none ∧ (held .initSetup [.silent] [] []).ctl.heldOn = .setup
        ∧ (held .initSetup [.silent] [] []).transport.setups = .silent :: [])
      ∧ ((held .sendTx [] [.silent] []).ctl.heldOn = .send ∧ (held .sendTx [] [.silent] []).transport.sends = .silent :: [])
      ∧ ((held .recvRx [] [] [.silent]).ctl.heldOn = .receive
        ∧ (held .recvRx [] [] [.silent]).transport.receives = .silent :: [])
      ∧ (State.reset.ctl = .idle ∧ State.reset.host = [] ∧ State.reset.pending = none)
      ∧ nextHas (step (hosting [1, 0, 0, 0])) (fun t => t.ctl == .idle) = true
      ∧ (hosting [1, 0, 0, 0]).host.head? ≠ some .hardwareReset := by decide

theorem witness_AgentsHandTheirEvents :
    ((hosting [4, 5, 0, 0, 1, 2, 3, 4]).pending = none ∧ (hosting [4, 5, 0, 0, 1, 2, 3, 4]).ctl = .idle
        ∧ (hosting [4, 5, 0, 0, 1, 2, 3, 4]).host
            = .present (commandBytes 0x04#8 0x05#8 0#16 (bytes [1, 2, 3, 4])) :: []
        ∧ (bytes [1, 2, 3, 4]).length = operandCount 0x04#8 0#16)
      ∧ (held .initSetup [.ok] [] []).transport.setups = .ok :: []
      ∧ (held .initSetup [.err TErr.first] [] []).transport.setups = .err TErr.first :: []
      ∧ (held .sendTx [] [.ok] []).transport.sends = .ok :: []
      ∧ (held .sendTx [] [.err TErr.first] []).transport.sends = .err TErr.first :: []
      ∧ ((held .eatRx [] [] [.ok (encode longest)]).ctl.heldOn = .receive
        ∧ (held .eatRx [] [] [.ok (encode longest)]).transport.receives = .ok (encode longest) :: []
        ∧ (encode longest).length ≤ 1024)
      ∧ (held .eatRx [] [] [.err TErr.first]).transport.receives = .err TErr.first :: []
      ∧ (held .eatAllWait [] [] []).ctl.heldOn = .wait 1 :=
  ⟨by decide, rfl, rfl, rfl, rfl, ⟨rfl, rfl, le_of_eq longest_length⟩, rfl, rfl⟩

theorem witness_WaitsComplete :
    [Phase.initWaitReset, .initWaitSettle, .initDrainWait, .eatAllWait].map
        (fun p => ((held p [] [] []).ctl, (held p [] [] []).pending))
      = [(.initWaitReset, none), (.initWaitSettle, none), (.initDrainWait, none), (.eatAllWait, none)] := by decide

theorem witness_HardwareResetSetsEveryRegister :
    ((State.reset.setRc true).setHost [.hardwareReset]).ctl = .idle
      ∧ ((State.reset.setRc true).setHost [.hardwareReset]).pending = none
      ∧ ((State.reset.setRc true).setHost [.hardwareReset]).host = .hardwareReset :: [] := by decide

theorem witness_NextIncrementsOneCounter : Channel.command ≠ Channel.executable := by decide

theorem witness_BuildWritesHeaderAndBody : (List.replicate 252 (0#8 : Byte)).length ≤ 252 := by
  rw [List.length_replicate]

theorem witness_OversizedBodyWritesNothing : 256 < (List.replicate 253 (0#8 : Byte)).length + 4 := by
  rw [List.length_replicate]
  decide

theorem witness_FramingRoundTrip :
    [0xAA#8, (0xBB#8 : Byte)].length ≤ 252
      ∧ ((build .sensorReports [0xAA#8, 0xBB#8] State.reset).map fun p => p.1) = some 6 := by decide

theorem witness_ParseValidatesLength :
    (bytes [5, 0, 1]).length < 4 ∧ bytes [6, 0, 1, 0, 1] = 6#8 :: 0#8 :: 1#8 :: 0#8 :: [1#8]
      ∧ bytes [5, 0xC0, 1, 0, 1] = 5#8 :: 0xC0#8 :: 1#8 :: 0#8 :: [1#8] := by decide

theorem witness_ReceiveRecordsLengthAndBytes :
    (held .eatRx [] [] [.ok (encode longest)]).pending = none
      ∧ (held .eatRx [] [] [.ok (encode longest)]).ctl.heldOn = .receive
      ∧ (held .eatRx [] [] [.ok (encode longest)]).transport.receives = .ok (encode longest) :: []
      ∧ (encode longest).length ≤ 1024
      ∧ (held .eatRx [] [] [.err TErr.first]).transport.receives = .err TErr.first :: [] :=
  ⟨rfl, rfl, rfl, le_of_eq longest_length, rfl⟩

/-- The longest frame, arrived in a phase that receives. -/
def longestArrived (p : Phase) : State := fillRx (encode longest) (handed p (.received 1024))

theorem longest_arrived (p : Phase) : FrameArrived (encode longest) (longestArrived p) :=
  ⟨by rw [longest_length]; rfl, fillRx_rxBytes _ _⟩

theorem witness_SensorFramesHandled :
    (receiving .handleRx [10, 0, 3, 0, 1, 2, 3, 4, 5, 5]).ctl = .handleRx ∧ RowArrived (.sensorRotationVector (hdrOf 10 0) 0x0504030201#40 [])
          (receiving .handleRx [10, 0, 3, 0, 1, 2, 3, 4, 5, 5])
      ∧ (receiving .handleRx [10, 0, 3, 0, 1, 2, 3, 4, 5, 6]).ctl = .handleRx ∧ RowArrived (.sensorOther (hdrOf 10 0) 0x0504030201#40 6#8 [])
          (receiving .handleRx [10, 0, 3, 0, 1, 2, 3, 4, 5, 6]) := by
  unfold RowArrived FrameArrived
  decide

theorem witness_CommandFramesHandled :
    (receiving .handleRx [5, 0, 0, 0, 0]).ctl = .handleRx ∧ RowArrived (.advertisement (hdrOf 5 0) [])
          (receiving .handleRx [5, 0, 0, 0, 0])
      ∧ (receiving .handleRx [5, 0, 0, 0, 1]).ctl = .handleRx ∧ RowArrived (.commandOther (hdrOf 5 0) 1#8 [])
          (receiving .handleRx [5, 0, 0, 0, 1]) := by
  unfold RowArrived FrameArrived
  decide

theorem witness_ExecutableFramesHandled :
    (receiving .handleRx [5, 0, 1, 0, 1]).ctl = .handleRx ∧ RowArrived (.resetComplete (hdrOf 5 0) [])
          (receiving .handleRx [5, 0, 1, 0, 1])
      ∧ (receiving .handleRx [5, 0, 1, 0, 0]).ctl = .handleRx ∧ RowArrived (.executableOther (hdrOf 5 0) 0#8 [])
          (receiving .handleRx [5, 0, 1, 0, 0]) := by
  unfold RowArrived FrameArrived
  decide

theorem witness_HubControlFramesHandled :
    (receiving .handleRx [5, 0, 2, 0, 0xF1]).ctl = .handleRx ∧ RowArrived (.commandResponse (hdrOf 5 0) [])
          (receiving .handleRx [5, 0, 2, 0, 0xF1])
      ∧ (receiving .handleRx [5, 0, 2, 0, 0xF8]).ctl = .handleRx ∧ RowArrived (.productIdResponse (hdrOf 5 0) [])
          (receiving .handleRx [5, 0, 2, 0, 0xF8])
      ∧ (receiving .handleRx [5, 0, 2, 0, 0xF7]).ctl = .handleRx ∧ RowArrived (.hubControlOther (hdrOf 5 0) 0xF7#8 [])
          (receiving .handleRx [5, 0, 2, 0, 0xF7]) := by
  unfold RowArrived FrameArrived
  decide

theorem witness_IgnoredAndShortFramesHandled :
    (longestArrived .handleRx).ctl = .handleRx ∧ RowArrived longest (longestArrived .handleRx)
      ∧ RowArrived (.noReportId (hdrOf 4 0) 2#2 []) (receiving .handleRx [4, 0, 2, 0])
      ∧ RowArrived (.noReportId (hdrOf 9 0) 3#2 (bytes [1, 2, 3, 4, 5])) (receiving .handleRx [9, 0, 3, 0, 1, 2, 3, 4, 5]) :=
  ⟨rfl, ⟨longest_wf, longest_arrived _⟩, by unfold RowArrived FrameArrived; decide,
    by unfold RowArrived FrameArrived; decide⟩

/-- A tag alone is no stream of elements. -/
theorem lone_tag_is_no_stream : ¬ ElementStream [0xAA#8] := by
  rintro ⟨elements, -, h⟩
  cases elements with
  | nil => cases h
  | cons e rest =>
    have hl := congrArg List.length h
    simp only [List.flatMap_cons, List.length_append, List.length_cons, List.length_nil] at hl
    omega

theorem witness_CorruptFrameRoutesNothing :
    (receiving .handleRx [6]).ctl = .handleRx ∧ FrameArrived (bytes [6]) (receiving .handleRx [6])
      ∧ bytes [6] ≠ [] ∧ (bytes [6]).length ≤ 1024 ∧ CorruptReceived (receiving .handleRx [6]).lengthCheck (bytes [6])
      ∧ CorruptReceived true (bytes [6, 0, 1, 0, 1]) ∧ CorruptReceived false (bytes [6, 0, 0, 0, 0, 0xAA]) :=
  ⟨rfl, by unfold FrameArrived; decide, by decide, by decide, .inl (by decide), .inr (.inl ⟨rfl, by decide⟩),
    .inr (.inr ⟨6#8, 0#8, 0#8, [0xAA#8], rfl, lone_tag_is_no_stream⟩)⟩

theorem witness_HandleOneWithoutAFrame :
    (receiving .handleRx []).ctl = .handleRx ∧ (receiving .handleRx []).pending = some (.received 0)
      ∧ (handed .handleRx (.answeredErr TErr.first)).ctl = .handleRx
      ∧ (handed .handleRx (.answeredErr TErr.first)).pending = some (.answeredErr TErr.first) := by decide

theorem witness_FramesElsewhereAreNotDispatched :
    (receiving .recvRx []).pending = some (.received 0) ∧ (receiving .eatRx [1, 2, 3]).pending = some (.received 3)
      ∧ (longestArrived .eatAllRx).pending = some (.received 1024)
      ∧ [Phase.initDiscardRx, .initDrainRx, .eatAllRx, .recvRx, .eatRx].map (fun p => (longestArrived p).ctl)
          = [.initDiscardRx, .initDrainRx, .eatAllRx, .recvRx, .eatRx]
      ∧ longest.isReceived = true ∧ FrameArrived (encode longest) (longestArrived .eatAllRx)
      ∧ (longestArrived .eatAllRx).ctl.heldOn = .receive :=
  ⟨rfl, rfl, rfl, rfl, rfl, longest_arrived _, rfl⟩

theorem witness_VerificationReadsOneByte :
    (receiving .verifyRx [5, 0, 0, 9, 0xF8]).ctl = .verifyRx
      ∧ FrameArrived (bytes [5, 0, 0, 9, 0xF8]) (receiving .verifyRx [5, 0, 0, 9, 0xF8])
      ∧ (bytes [5, 0, 0, 9, 0xF8]).length ≤ 1024 ∧ (bytes [5, 0, 0, 9, 0xF8])[4]? = some 0xF8#8
      ∧ (receiving .initVerifyRx [4, 0, 2, 1]).ctl = .initVerifyRx
      ∧ FrameArrived (bytes [4, 0, 2, 1]) (receiving .initVerifyRx [4, 0, 2, 1])
      ∧ (bytes [4, 0, 2, 1])[4]? ≠ some 0xF8#8 := by
  unfold FrameArrived
  decide

theorem witness_ReceiveErrors :
    [Phase.verifyRx, .initVerifyRx, .recvRx, .initDiscardRx, .eatRx, .eatAllRx].map
        (fun p => (handed p (.answeredErr TErr.first)).ctl)
      = [.verifyRx, .initVerifyRx, .recvRx, .initDiscardRx, .eatRx, .eatAllRx]
      ∧ (handed .verifyRx (.answeredErr TErr.first)).pending = some (.answeredErr TErr.first) := by decide

theorem witness_WaitingCommandsStart : State.reset.ctl = .idle := rfl
theorem witness_SoftResetSendsItsFrame : (presenting []).ctl = .idle := rfl
theorem witness_VerifyProductIdSendsItsRequest : (presenting []).ctl = .idle := rfl

theorem witness_EnablesSendSetFeature :
    State.reset.ctl = .idle ∧ (704#32 : Word).toNat = (4294968#32 : Word).toNat * 1000 % 4294967296 := by decide

theorem witness_SendFrameSendsTheBody :
    State.reset.ctl = .idle ∧ (List.replicate 252 (0#8 : Byte)).length ≤ 252
      ∧ 252 < (List.replicate 253 (0#8 : Byte)).length := by
  rw [List.length_replicate, List.length_replicate]
  decide

theorem witness_IntervalConversion :
    (4294967#32 : Word).toNat ≤ 4294967 ∧ 4294968 ≤ (4294968#32 : Word).toNat := by decide

theorem witness_ReadoutCommandsAnswer : State.reset.ctl = .idle := rfl

theorem witness_SentFramesComplete :
    (Instr.genericFrame .command 0#8 []).isSent = true
      ∧ (sending .sendTx [4, 0, 0, 0] .answeredOk).txBytes (sending .sendTx [4, 0, 0, 0] .answeredOk).txLen
          = encode (.genericFrame .command 0#8 [])
      ∧ (sending .sendTx [4, 0, 0, 0] .answeredOk).pending = some .answeredOk
      ∧ (sending .softResetTx [5, 0, 1, 1, 1] .answeredOk).txBytes (sending .softResetTx [5, 0, 1, 1, 1] .answeredOk).txLen
          = encode (.softResetFrame 1#8)
      ∧ [Phase.initResetTx, .initVerifyTx, .verifyTx, .softResetTx, .enableTx, .sendTx].map
          (fun p => (sending p [4, 0, 0, 0] .answeredOk).ctl)
        = [.initResetTx, .initVerifyTx, .verifyTx, .softResetTx, .enableTx, .sendTx] := by decide

theorem witness_SendFailureKeepsTheCount :
    (Instr.genericFrame .command 0#8 []).isSent = true
      ∧ (sending .sendTx [4, 0, 0, 0] (.answeredErr TErr.first)).ctl.heldOn = .send
      ∧ (sending .sendTx [4, 0, 0, 0] (.answeredErr TErr.first)).txBytes 4 = encode (.genericFrame .command 0#8 [])
      ∧ (sending .sendTx [4, 0, 0, 0] (.answeredErr TErr.first)).txLen = 4
      ∧ (sending .sendTx [4, 0, 0, 0] (.answeredErr TErr.first)).pending = some (.answeredErr TErr.first) := by decide

theorem witness_EventsWithoutAMove :
    (Instr.init.isCommand = true ∧ (held .recvRx [] [] []).ctl ≠ .idle)
      ∧ ((Instr.softResetFrame 0#8).isSent = true ∧ (held .recvRx [] [] []).ctl.heldOn ≠ .send)
      ∧ (longest.isReceived = true ∧ State.reset.ctl.heldOn ≠ .receive)
      ∧ ((held .recvRx [] [] [.ok (List.replicate 1025 0#8)]).pending = none
        ∧ (held .recvRx [] [] [.ok (List.replicate 1025 0#8)]).ctl.heldOn = .receive
        ∧ (held .recvRx [] [] [.ok (List.replicate 1025 0#8)]).transport.receives = .ok (List.replicate 1025 0#8) :: []
        ∧ 1024 < (List.replicate 1025 (0#8 : Byte)).length)
      ∧ ((handed .recvRx .answeredOk).pending = some .answeredOk ∧ (handed .recvRx .answeredOk).ctl.heldOn ≠ .setup
        ∧ (handed .recvRx .answeredOk).ctl.heldOn ≠ .send)
      ∧ ((handed .idle .waited).pending = some .waited ∧ ∀ units, (handed .idle .waited).ctl.heldOn ≠ .wait units) := by
  refine ⟨by decide, by decide, by decide, ⟨rfl, rfl, rfl, ?_⟩, by decide, rfl, ?_⟩
  · rw [List.length_replicate]
    decide
  · intro units h
    cases h

theorem witness_InitPhaseTable :
    [Phase.initSetup, .initResetTx, .initVerifyTx].map (fun p => ((handed p .answeredOk).ctl, (handed p .answeredOk).pending))
        = [(.initSetup, some .answeredOk), (.initResetTx, some .answeredOk), (.initVerifyTx, some .answeredOk)]
      ∧ [Phase.initSetup, .initResetTx, .initVerifyTx, .initDiscardRx, .initDrainRx, .initVerifyRx].map
          (fun p => ((handed p (.answeredErr TErr.first)).ctl, (handed p (.answeredErr TErr.first)).pending))
        = [Phase.initSetup, .initResetTx, .initVerifyTx, .initDiscardRx, .initDrainRx, .initVerifyRx].map
            (fun p => (p, some (.answeredErr TErr.first)))
      ∧ [Phase.initWaitReset, .initWaitSettle, .initDrainWait].map (fun p => ((handed p .waited).ctl, (handed p .waited).pending))
        = [(.initWaitReset, some .waited), (.initWaitSettle, some .waited), (.initDrainWait, some .waited)]
      ∧ ((receiving .initDiscardRx [4]).ctl = .initDiscardRx ∧ (receiving .initDiscardRx [4]).pending = some (.received 1))
      ∧ ((receiving .initDrainRx [4]).ctl = .initDrainRx ∧ (receiving .initDrainRx [4]).pending = some (.received 1))
      ∧ (receiving .initDrainRx []).pending = some (.received 0)
      ∧ ((receiving .initVerifyRx [5, 0, 2, 1, 0xF8]).pending = some (.received 5)
        ∧ (receiving .initVerifyRx [5, 0, 2, 1, 0xF8]).rxByte 4 = 0xF8#8)
      ∧ (receiving .initVerifyRx [4, 0, 2, 1]).pending = some (.received 4) := by decide

/-- The reset state with INIT to come and the answers of 95_test_vectors P-1. -/
def initState (last : List Nat) : State :=
  (hosting [1, 0, 0, 0]).setTransport
    { setups := [.ok], sends := [.ok, .ok],
      receives := .ok (bytes [5, 0, 1, 1, 1])
        :: ([bytes [0x0C, 0, 0, 1, 0, 1, 2, 0xAA, 0xBB, 2, 1, 0xCC]].map .ok ++ .ok [] :: .ok (bytes last) :: []),
      asked := 0 }

theorem witness_InitHandshake :
    (initState [5, 0, 2, 1, 0xF8]).ctl = .idle ∧ (initState [5, 0, 2, 1, 0xF8]).pending = none
      ∧ (initState [5, 0, 2, 1, 0xF8]).host = .present [0x01#8, 0x00#8, 0x00#8, 0x00#8] :: []
      ∧ (initState [5, 0, 2, 1, 0xF8]).transport
          = { setups := .ok :: [], sends := .ok :: .ok :: [],
              receives := .ok (bytes [5, 0, 1, 1, 1])
                :: ([bytes [0x0C, 0, 0, 1, 0, 1, 2, 0xAA, 0xBB, 2, 1, 0xCC]].map .ok
                  ++ .ok [] :: .ok (bytes [5, 0, 2, 1, 0xF8]) :: []),
              asked := 0 }
      ∧ (bytes [5, 0, 1, 1, 1]).length ≤ 1024 ∧ bytes [0x0C, 0, 0, 1, 0, 1, 2, 0xAA, 0xBB, 2, 1, 0xCC] ≠ []
      ∧ (bytes [0x0C, 0, 0, 1, 0, 1, 2, 0xAA, 0xBB, 2, 1, 0xCC]).length ≤ 1024
      ∧ (bytes [5, 0, 2, 1, 0xF8])[4]? = some 0xF8#8 ∧ (bytes [6, 0, 2, 1, 0xF1, 0x84])[4]? ≠ some 0xF8#8 := by decide

/-- From reset, INIT succeeds in a run (95_test_vectors P-1). -/
theorem witness_InitFromResetLeaves :
    nextHas (steps 22 (initState [5, 0, 2, 1, 0xF8]))
      (fun t => t.response == some { cond := .ok, value := 0#32, route := .none, info := .absent }) = true := by decide

/-- The reset state with EAT_ALL, two frames and an error to come (95_test_vectors 2.8). -/
def drainState : State :=
  (hosting [10, 0, 0, 0]).setTransport
    { setups := [], sends := [],
      receives := [bytes [5, 0, 5, 0, 1], bytes [5, 0, 5, 0, 1]].map .ok ++ .err TErr.first :: [],
      asked := 0 }

theorem witness_EatAllDrains :
    drainState.ctl = .idle ∧ drainState.pending = none ∧ drainState.host = .present [0x0A#8, 0x00#8, 0x00#8, 0x00#8] :: []
      ∧ bytes [5, 0, 5, 0, 1] ≠ [] ∧ (bytes [5, 0, 5, 0, 1]).length ≤ 1024
      ∧ drainState.transport.receives
          = [bytes [5, 0, 5, 0, 1], bytes [5, 0, 5, 0, 1]].map .ok ++ .err TErr.first :: [] := by decide

/-- A state in which every invariant says something: a soft reset's frame is outstanding. -/
def busy : State :=
  ((sending .softResetTx [5, 0, 1, 1, 1] .answeredOk).setSeq (SeqCounters.zero.set .executable 1#8)).setCtx
    { Ctx.zero with op := 0x02#8 }

theorem busy_steps : nextHas (step busy) (fun t => t.ctl == .idle) = true := by decide
theorem witness_StepKeepsBuffersCanonical : Memory.wf busy = true := by decide
theorem witness_StepKeepsOutstandingFrame : OutstandingFrame busy := by
  show busy.txBytes busy.txLen = encode (.softResetFrame busy.seq.executable)
  decide
theorem witness_StepKeepsRxLenInRange : RxLenInRange (busy.setLastRxLen 1024#11) := by
  unfold RxLenInRange
  decide
theorem witness_StepNeverProducesFirmwareCondition : NoFirmwareCondition busy :=
  ⟨by decide, fun r h => by cases h⟩
theorem witness_StepKeepsPortSilentWhileBusy : SilentWhileBusy busy := fun _ => rfl
theorem witness_StepKeepsContextFitsPhase : ContextFitsPhase busy := fun _ => by decide
theorem witness_StepKeepsEventFitsPhase :
    EventFitsPhase busy ∧ EventFitsPhase (hosting [1, 0, 0]) ∧ step (hosting [1, 0, 0]) = .fault .commandTransfer :=
  ⟨.inr rfl, trivial, rfl⟩

theorem not_resetIsNext (s : State) (h : (s.host.head? == some .hardwareReset) = false) : ¬ ResetIsNext s := by
  rintro ⟨-, -, hr⟩
  rw [hr] at h
  cases h

theorem witness_FlagsAreMonotonic :
    nextHas (step (((receiving .handleRx [5, 0, 1, 0, 2]).setRc true).setPiv true)) (fun t => t.rc && t.piv) = true
      ∧ ¬ ResetIsNext (((receiving .handleRx [5, 0, 1, 0, 2]).setRc true).setPiv true) :=
  ⟨by decide, not_resetIsNext _ (by decide)⟩

theorem witness_FlagsHaveTheirCauses :
    (receiving .handleRx [5, 0, 1, 0, 1]).rc = false
      ∧ nextHas (step (receiving .handleRx [5, 0, 1, 0, 1])) (fun t => t.rc) = true
      ∧ (receiving .handleRx [5, 0, 2, 0, 0xF8]).piv = false
      ∧ nextHas (step (receiving .handleRx [5, 0, 2, 0, 0xF8])) (fun t => t.piv) = true
      ∧ nextHas (step (receiving .verifyRx [5, 0, 3, 0, 0xF8])) (fun t => t.piv) = true := by decide

theorem witness_CounterRisesOnlyWithAFrame :
    nextHas (step (presenting [2, 0, 0, 0])) (fun t => t.seq != (presenting [2, 0, 0, 0]).seq) = true
      ∧ ¬ ResetIsNext (presenting [2, 0, 0, 0]) := ⟨by decide, not_resetIsNext _ (by decide)⟩

theorem witness_BuffersHaveOneWriter :
    nextHas (step (held .eatRx [] [] [.ok (bytes [5])])) (fun t => t.rx != Buffer.unwritten 0) = true
      ∧ nextHas (step (presenting [2, 0, 0, 0])) (fun t => t.tx != (presenting [2, 0, 0, 0]).tx) = true
      ∧ ¬ ResetIsNext (held .eatRx [] [] [.ok (bytes [5])]) ∧ ¬ ResetIsNext (presenting [2, 0, 0, 0]) :=
  ⟨by decide, by decide, not_resetIsNext _ (by decide), not_resetIsNext _ (by decide)⟩

end Sys2Proof.Tests
end

/-!
PROOF. The agents' steps (spec 00_scope R6 to R8, R13): what each of them is while the core has been handed nothing, and the
statements on the turns of the four agents.
-/

namespace Sys2Proof

/-- A command word followed by as many operand bytes as its opcode takes is a transfer (30_encoding R74). -/
@[simp] theorem isTransfer_commandBytes (op a8 : Byte) (a16 : Half) (operands : List Byte) :
    isTransfer (commandBytes op a8 a16 operands) = (operands.length == operandCount op a16) := by
  simp [isTransfer, commandBytes, le16, ofLe16_extract]

end Sys2Proof

namespace Sys2Proof.Machine

/-! ### The other agents' steps, by what they do next -/

section
variable {s : State} (h : s.pending = none)
include h

/-- While the core is idle and has been handed nothing, the step is the Host's. -/
theorem step_idle (hc : s.ctl = .idle) : step s = hostStep s := by
  rw [step_agent h, hc]
  rfl

/-- The Host presents a transfer. -/
theorem step_present {bytes : List Byte} {rest : List HostEvent} (hc : s.ctl = .idle)
    (hh : s.host = .present bytes :: rest) (ht : isTransfer bytes = true) :
    step s = .next ((s.setHost rest).setPending (some (.presented bytes))) := by
  rw [step_idle h hc]
  simp only [hostStep, hh, ht, if_true]

/-- The Transport gives its next listed answer to a `setup`. -/
theorem step_setup_listed {a : StatusAnswer} {rest : List StatusAnswer} (hc : s.ctl.heldOn = .setup)
    (hl : s.transport.setups = a :: rest) :
    step s = .next (handStatus (a, s.setTransport { s.transport with setups := rest })) := by
  simp only [step_agent h, hc, transportStep, State.takeSetup, hl]

/-- The Transport gives its next listed answer to a `send`. -/
theorem step_send_listed {a : StatusAnswer} {rest : List StatusAnswer} (hc : s.ctl.heldOn = .send)
    (hl : s.transport.sends = a :: rest) :
    step s = .next (handStatus (a, s.setTransport { s.transport with sends := rest })) := by
  simp only [step_agent h, hc, transportStep, State.takeSend, hl]

/-- The Transport gives its next listed answer to a `receive`. -/
theorem step_receive_listed {a : ReceiveAnswer} {rest : List ReceiveAnswer} (hc : s.ctl.heldOn = .receive)
    (hl : s.transport.receives = a :: rest) :
    step s = handReceive (a, s.setTransport { s.transport with receives := rest }) := by
  simp only [step_agent h, hc, transportStep, State.takeReceive, hl]

/-- The Delay provider completes the outstanding wait. -/
theorem step_wait {n : Nat} (hc : s.ctl.heldOn = .wait n) : step s = .next (delayStep s) := by
  simp only [step_agent h, hc]

end

/-- Bytes within the contract are filled into RX and announced to the core (20_memory R40). -/
theorem handReceive_ok {frame : List Byte} (s : State) (hfit : frame.length ≤ Config.rxCap) :
    handReceive (.ok frame, s) = .next ((fillRx frame s).setPending (some (.received frame.length))) :=
  if_neg (by omega)

/-! ### The core is held until it is handed an event -/

/-- Two states agree on every register of the core but RX, and on the parameter. -/
def SameCore (s t : State) : Prop :=
  t.seq = s.seq ∧ t.rc = s.rc ∧ t.piv = s.piv ∧ t.tx = s.tx ∧ t.txLen = s.txLen ∧ t.ctl = s.ctl ∧ t.ctx = s.ctx
    ∧ t.lastCond = s.lastCond ∧ t.lastRoute = s.lastRoute ∧ t.lastRxLen = s.lastRxLen ∧ t.response = s.response
    ∧ t.lengthCheck = s.lengthCheck

/-- While the core has been handed nothing, no step but the hardware reset writes a register of it other than RX (00_scope
R6, R7). -/
theorem step_sameCore {s t : State} (hp : s.pending = none) (hr : ¬ ResetIsNext s) (h : step s = .next t) :
    SameCore s t := by
  cases step_move h with
  | reset rest _ hc hh => exact absurd ⟨hc, hp, by rw [hh]; rfl⟩ hr
  | rest | presented | silent | answered | filled | spoiled | delayed =>
    exact ⟨rfl, rfl, rfl, rfl, rfl, rfl, rfl, rfl, rfl, rfl, rfl, rfl⟩
  | refused _ he | command _ he | setup he | sent he | failed _ he | receiveFailed _ he | received _ he | waited _ he =>
    rw [hp] at he
    cases he

/-- Settles O10: the moves of a held core are those of the other agents, and a silent answer or an idle Host hands it
nothing. -/
theorem heldCoreTakesNoStep : Obligations.HeldCoreTakesNoStep := by
  intro s hp
  refine ⟨fun t hr h => step_sameCore hp hr h, ?setup, ?send, ?receive, ?idle⟩
  case setup => exact fun _ hc hl => step_setup_listed hp hc hl
  case send => exact fun _ hc hl => step_send_listed hp hc hl
  case receive => exact fun _ hc hl => step_receive_listed hp hc hl
  case idle =>
    intro hc hh
    rw [step_idle hp hc, hostStep, hh]

/-! ### What each agent hands the core -/

/-- A receive answered `Ok` leaves its frame at the start of RX and announces its length (20_memory R40). -/
theorem step_receive_ok {s : State} {frame : List Byte} {rest : List ReceiveAnswer} (hp : s.pending = none)
    (hc : s.ctl.heldOn = .receive) (hl : s.transport.receives = .ok frame :: rest) (hfit : frame.length ≤ 1024) :
    ∃ t, step s = .next t ∧ FrameArrived frame t ∧ (∀ i, frame.length ≤ i → t.rxByte i = s.rxByte i)
      ∧ t = { s with
          transport := { s.transport with receives := rest }
          rx := t.rx
          pending := some (.received frame.length) } := by
  refine ⟨_, (step_receive_listed hp hc hl).trans (handReceive_ok _ hfit), ⟨rfl, fillRx_rxBytes frame (s.setTransport _)⟩,
    fun i hi => ?_, rfl⟩
  exact (fillRx_rxByte frame (s.setTransport _) i).trans (if_neg (by omega))

/-- A receive answered `Err(e)` leaves every byte of RX to a new draw (20_memory R41). -/
theorem step_receive_failed {s : State} {e : TErr} {rest : List ReceiveAnswer} (hp : s.pending = none)
    (hc : s.ctl.heldOn = .receive) (hl : s.transport.receives = .err e :: rest) :
    ∃ t, step s = .next t ∧ (∀ i, t.rxByte i = Config.rxDraw (s.rx.epoch + 1) i)
      ∧ t = { s with
          transport := { s.transport with receives := rest }
          rx := t.rx
          pending := some (.answeredErr e) } :=
  ⟨_, step_receive_listed hp hc hl, spoilRx_rxByte (s.setTransport _), rfl⟩

/-- Settles O11: each agent's own step, by what it does next. -/
theorem agentsHandTheirEvents : Obligations.AgentsHandTheirEvents := by
  intro s hp
  refine ⟨?host, ?setup, ?send, ?receive, ?delay⟩
  case host =>
    intro op a8 a16 operands rest hc hh hlen
    exact step_present hp hc hh (by simp [hlen])
  case setup => exact fun rest hc => ⟨step_setup_listed hp hc, fun _ => step_setup_listed hp hc⟩
  case send => exact fun rest hc => ⟨step_send_listed hp hc, fun _ => step_send_listed hp hc⟩
  case receive => exact fun rest hc => ⟨fun _ => step_receive_ok hp hc, fun _ => step_receive_failed hp hc⟩
  case delay => exact fun _ hc => step_wait hp hc

/-! ### What the core's step runs -/

/-- The core's step runs the instruction that it fetches. -/
theorem step_fetched {s : State} {ev : Event} {i : Instr} (h : s.pending = some ev) (hf : fetch s = .run i) :
    step s = exec i s := by
  rw [step_core h, hf]

/-- What is fetched on the answer to a send is the row of the frame in TX (10_state R29). -/
theorem fetchAnswered_send {s : State} {err : Option TErr} {i : Instr} (hc : s.ctl.heldOn = .send)
    (hd : decodeSent (s.txBytes s.txLen) = .ok i) : fetchAnswered err s = .run i := by
  simp only [fetchAnswered, hc, hd]

/-- Settles O9: each event fetches the instruction in its bytes. -/
theorem stepRunsDecodedInstruction : Obligations.StepRunsDecodedInstruction := by
  intro s i
  refine ⟨?presented, ?answered, ?received⟩
  case presented =>
    intro bytes hp hd
    rw [step_presented hp, hd]
  case answered =>
    rintro hc (hp | ⟨e, hp⟩) hd
    · exact step_fetched hp (by simp only [fetch, hp, fetchAnswered_send hc hd])
    · exact step_fetched hp (by simp [fetch, hp, hc, fetchAnswered_send hc hd])
  case received =>
    intro r hp hd
    exact step_fetched hp (by simp only [fetch, hp, fetchReceived, hd])

end Sys2Proof.Machine

/-!
PROOF. The registers (spec 10_state): what one step can do to each of them, and the statements on the counters, the flags,
the buffers, LAST_RX_LEN, the context, STATUS and the hardware reset.
-/

namespace Sys2Proof.Machine

/-! ### Taking an event -/

/-- From `s` to `u` the core has taken the event it was handed (40_codec R89, 44_host_ops R127, log 22): only an idle core's
context is written, and LAST_RX_LEN only with a length of RX. -/
structure Taken (s u : State) : Prop where
  seq : u.seq = s.seq
  rc : u.rc = s.rc
  piv : u.piv = s.piv
  rx : u.rx = s.rx
  tx : u.tx = s.tx
  ctl : u.ctl = s.ctl
  pending : u.pending = none
  ctx : s.ctl = .idle ∨ u.ctx = s.ctx
  rxLen : u.lastRxLen = s.lastRxLen ∨ u.lastRxLen.toNat ≤ Config.rxCap

/-- A length of RX is the number that LAST_RX_LEN holds of it. -/
theorem recordRx_rxLen {r : Nat} (s : State) (hr : r ≤ Config.rxCap) : (recordRx r s).lastRxLen.toNat = r := by
  have hcap : Config.rxCap = 1024 := rfl
  rw [recordRx_lastRxLen, BitVec.toNat_ofNat, Nat.mod_eq_of_lt (by omega)]

theorem State.taken_taken (s : State) : Taken s s.taken :=
  ⟨rfl, rfl, rfl, rfl, rfl, rfl, rfl, .inr rfl, .inl rfl⟩

theorem recordRx_taken {r : Nat} (s : State) (hr : r ≤ Config.rxCap) : Taken s (recordRx r s) :=
  ⟨rfl, rfl, rfl, rfl, rfl, rfl, rfl, .inr rfl, .inr (by rwa [recordRx_rxLen s hr])⟩

theorem accepted_taken {s : State} (op a8 : Byte) (a16 : Half) (intervalMs : Word) (body : List Byte)
    (hc : s.ctl = .idle) : Taken s (accepted op a8 a16 intervalMs body s) :=
  ⟨rfl, rfl, rfl, rfl, rfl, rfl, rfl, .inl hc, .inl rfl⟩

/-! ### Running to the next request or the response -/

/-- The flag that a received frame sets, if any, and in which phase (10_state R22, R23). -/
inductive FlagWrite (u : State) : State → Prop
  | none : FlagWrite u u
  | resetComplete (hc : u.ctl = .handleRx) (hlen : 4 < u.lastRxLen.toNat) (hchan : u.rxByte 2 = 0x01#8)
      (hid : u.rxByte 4 = 0x01#8) : FlagWrite u (setResetComplete u)
  | productId (hlen : 4 < u.lastRxLen.toNat) (hid : u.rxByte 4 = 0xF8#8)
      (hc : (u.ctl = .handleRx ∧ u.rxByte 2 = 0x02#8) ∨ u.ctl = .verifyRx ∨ u.ctl = .initVerifyRx) :
      FlagWrite u (setProductIdVerified u)

/-- What the core does from `u`, in which it has taken an event, up to its next request or its response (00_scope R13): it is
held in a phase of the same command, or of the one just accepted, with or without a frame issued, or it answers the Host. -/
inductive CoreRun (u : State) : State → Prop
  | holds (p : Phase) (n : Word) (hp : p.usedBy = u.ctl.usedBy ∨ u.ctx.op ∈ p.usedBy) :
      CoreRun u ((u.setCtx { u.ctx with n := n }).setCtl p)
  | issues (c : Channel) (body : List Byte) (p : Phase) (hs : p.heldOn = .send)
      (hp : p.usedBy = u.ctl.usedBy ∨ u.ctx.op ∈ p.usedBy) : CoreRun u ((builtState c body u).setCtl p)
  | answers {f : State} (hf : FlagWrite u f) (lastCond : Cond) (lastRoute : Route) (cond : Cond) (value : Word)
      (route : Route) (info : Info) :
      CoreRun u (respond cond value route info ((f.setLastCond lastCond).setLastRoute lastRoute))

section
variable {u f : State}

theorem CoreRun.stays : CoreRun u u := .holds u.ctl u.ctx.n (.inl rfl)

theorem CoreRun.goes {p : Phase} (hp : p.usedBy = u.ctl.usedBy ∨ u.ctx.op ∈ p.usedBy) : CoreRun u (u.setCtl p) :=
  .holds p u.ctx.n hp

theorem CoreRun.completes (hf : FlagWrite u f) (value : Word) : CoreRun u (complete value f) :=
  .answers hf .ok f.lastRoute .ok value .none .absent

theorem CoreRun.raises (cond : Cond) (info : Info) : CoreRun u (raise cond info u) :=
  .answers .none cond u.lastRoute cond 0#32 .none info

theorem CoreRun.handles (hf : FlagWrite u f) (cond : Cond) (rt : Route) (count : Word) :
    CoreRun u (handled cond rt count f) :=
  .answers hf cond rt .ok count rt .absent

theorem CoreRun.ends (cond : Cond) (value : Word) :
    CoreRun u (respond .ok value .none .absent (u.setLastCond cond)) :=
  .answers .none cond u.lastRoute .ok value .none .absent

end

theorem CommandStart.coreRun {s t : State} {op a8 : Byte} {a16 : Half} {intervalMs : Word} {body : List Byte}
    (h : CommandStart s a8 a16 intervalMs body op t) : CoreRun (accepted op a8 a16 intervalMs body s) t := by
  cases h with
  | init | receive | handle | eatOne => exact .goes (.inr (.head _))
  | eatAll => exact .holds .eatAllRx 0#32 (.inr (.head _))
  | softReset | verify | enableReport | send => exact .issues _ _ _ rfl (.inr (.head _))
  | enableRotationVector => exact .issues _ _ _ rfl (.inr (.tail _ (.head _)))
  | oversized => exact .raises _ _
  | read => exact .answers .none _ _ _ _ _ _

/-- INIT's first frame (42_init R113 step 2). -/
theorem afterSetup_coreRun {u : State} (hc : u.ctl = .initSetup) : CoreRun u (afterSetup u) := by
  rw [afterSetup_eq]
  exact .issues _ _ _ rfl (.inl (by rw [hc]; rfl))

/-- INIT's request for the product ID, after its drain (42_init R113 step 7). -/
theorem verifyStart_coreRun {u : State} (hc : u.ctl = .initDrainRx) : CoreRun u (verifyStart .initVerifyTx u) := by
  rw [verifyStart_eq]
  exact .issues _ _ _ rfl (.inl (by rw [hc]; rfl))

theorem afterSend_coreRun (u : State) : CoreRun u (afterSend u) := by
  cases hc : u.ctl <;> simp only [afterSend, hc]
  case initResetTx | initVerifyTx | verifyTx => exact .goes (.inl (by rw [hc]; rfl))
  case softResetTx | enableTx | sendTx => exact .completes .none _
  all_goals exact .stays

theorem afterWait_coreRun (u : State) : CoreRun u (afterWait u) := by
  cases hc : u.ctl <;> simp only [afterWait, hc]
  case initWaitReset | initDrainWait | eatAllWait => exact .goes (.inl (by rw [hc]; rfl))
  case initWaitSettle => exact .holds .initDrainRx 0#32 (.inl (by rw [hc]; rfl))
  all_goals exact .stays

theorem afterReceiveErr_coreRun (e : TErr) (u : State) : CoreRun u (afterReceiveErr e u) := by
  cases hc : u.ctl <;> simp only [afterReceiveErr, hc]
  case initDiscardRx => exact .goes (.inl (by rw [hc]; rfl))
  case initDrainRx => exact verifyStart_coreRun hc
  case initVerifyRx | verifyRx | recvRx => exact .raises _ _
  case handleRx => exact .handles .none _ _ _
  case eatRx | eatAllRx => exact .ends _ _
  all_goals exact .stays

section
variable {u : State} {r : Nat} (hr : u.lastRxLen.toNat = r)
include hr

/-- HANDLE_ONE sets a flag for the two frames of 10_state R22, R23 alone. -/
theorem handleReceived_coreRun (hc : u.ctl = .handleRx) : CoreRun u (handleReceived r u) := by
  obtain ⟨cond, rt, count, f, h, -, hf⟩ := handleReceived_cases r u
  rw [h]
  rcases hf with rfl | ⟨rfl, hlen, hchan, hid⟩ | ⟨rfl, hlen, hchan, hid⟩
  · exact .handles .none _ _ _
  · exact .handles (.resetComplete hc (hr ▸ hlen) hchan hid) _ _ _
  · exact .handles (.productId (hr ▸ hlen) hid (.inl ⟨hc, hchan⟩)) _ _ _

/-- A verification sets PIV for byte 0xF8 alone (42_init R112). -/
theorem verifyReceived_coreRun (hc : u.ctl = .verifyRx ∨ u.ctl = .initVerifyRx) : CoreRun u (verifyReceived r u) := by
  rcases verifyReceived_cases r u with ⟨h, hlen, hid⟩ | ⟨b, h⟩ <;> rw [h]
  · exact .completes (.productId (hr ▸ hlen) hid (.inr hc)) _
  · exact .raises _ _

theorem afterReceiveOk_coreRun : CoreRun u (afterReceiveOk r u) := by
  cases hc : u.ctl <;> simp only [afterReceiveOk, hc]
  case initDiscardRx => exact .goes (.inl (by rw [hc]; rfl))
  case initDrainRx =>
    split
    · exact verifyStart_coreRun hc
    · exact .holds .initDrainWait (u.ctx.n + 1#32) (.inl (by rw [hc]; rfl))
  case initVerifyRx => exact verifyReceived_coreRun hr (.inr hc)
  case verifyRx => exact verifyReceived_coreRun hr (.inl hc)
  case recvRx | eatRx => exact .completes .none _
  case handleRx => exact handleReceived_coreRun hr hc
  case eatAllRx =>
    split
    · exact .ends _ _
    · exact .holds .eatAllWait (u.ctx.n + 1#32) (.inl (by rw [hc]; rfl))
  all_goals exact .stays

end

/-! ### What a step can do -/

/-- What a step does to the registers: the hardware reset sets them all, another agent writes RX at most, and the core takes
an event and runs. -/
inductive StepEffect (s t : State) : Prop
  | reset (rest : List HostEvent) (hr : ResetIsNext s) (ht : t = hardwareReset (s.setHost rest))
  | agent (hs : SameCore s t) (hrx : t.rx = s.rx ∨ s.pending = none ∧ s.ctl.heldOn = .receive)
  | core (ev : Event) (hp : s.pending = some ev) (u : State) (hu : Taken s u) (hrun : CoreRun u t)

/-- Only INIT is held on a `setup` (10_state R29). -/
theorem Phase.heldOn_setup {p : Phase} (h : p.heldOn = .setup) : p = .initSetup := by
  cases p <;> first | rfl | cases h

/-- A step with a next state does nothing else. -/
theorem step_effect {s t : State} (h : step s = .next t) : StepEffect s t := by
  cases step_move h with
  | reset rest hp hc hh => exact .reset rest ⟨hc, hp, by rw [hh]; rfl⟩ rfl
  | rest | presented | silent | answered | delayed =>
    exact .agent ⟨rfl, rfl, rfl, rfl, rfl, rfl, rfl, rfl, rfl, rfl, rfl, rfl⟩ (.inl rfl)
  | filled _ _ hp hc | spoiled _ _ hp hc =>
    exact .agent ⟨rfl, rfl, rfl, rfl, rfl, rfl, rfl, rfl, rfl, rfl, rfl, rfl⟩ (.inr ⟨hp, hc⟩)
  | refused _ hp => exact .core _ hp _ s.taken_taken (.raises _ _)
  | command _ hp hc ht => exact .core _ hp _ (accepted_taken _ _ _ _ _ hc) ht.coreRun
  | setup hp hc => exact .core _ hp _ s.taken_taken (afterSetup_coreRun (Phase.heldOn_setup hc))
  | sent hp => exact .core _ hp _ s.taken_taken (afterSend_coreRun _)
  | failed _ hp => exact .core _ hp _ s.taken_taken (.raises _ _)
  | receiveFailed e hp =>
    exact .core _ hp _ (recordRx_taken s (Nat.zero_le _)) (afterReceiveErr_coreRun e _)
  | received r hp _ hfit =>
    exact .core _ hp _ (recordRx_taken s hfit) (afterReceiveOk_coreRun (recordRx_rxLen s hfit))
  | waited _ hp => exact .core _ hp _ s.taken_taken (afterWait_coreRun _)

/-! ### The registers after a run of the core -/

section
variable {u t : State} (h : CoreRun u t)
include h

/-- The core writes no byte of RX (10_state R25). -/
theorem CoreRun.rx : t.rx = u.rx := by
  cases h with
  | holds | issues => rfl
  | answers hf => cases hf <;> rfl

theorem CoreRun.lastRxLen : t.lastRxLen = u.lastRxLen := by
  cases h with
  | holds | issues => rfl
  | answers hf => cases hf <;> rfl

/-- No run of the core returns a flag to 0 (10_state R24). -/
theorem CoreRun.flags_monotonic : (u.rc = true → t.rc = true) ∧ (u.piv = true → t.piv = true) := by
  cases h with
  | holds | issues => exact ⟨id, id⟩
  | answers hf =>
    cases hf with
    | none => exact ⟨id, id⟩
    | resetComplete => exact ⟨fun _ => rfl, id⟩
    | productId => exact ⟨id, fun _ => rfl⟩

/-- The sending side is left alone, or one counter has risen and its frame is the outstanding send (40_codec R88). -/
theorem CoreRun.sending (hp : u.pending = none) :
    (t.seq = u.seq ∧ t.tx = u.tx)
      ∨ ∃ c body, t.seq = u.seq.set c (u.seq.get c + 1#8) ∧ t.ctl.heldOn = .send
        ∧ t.request = some (.send (builtFrame c (u.seq.get c + 1#8) body)) := by
  cases h with
  | holds => exact .inl ⟨rfl, rfl⟩
  | answers hf => exact .inl (by cases hf <;> exact ⟨rfl, rfl⟩)
  | issues c body p hs =>
    refine .inr ⟨c, body, rfl, hs, ?_⟩
    simp [State.request, hp, hs, builtState_txBytes]

end

/-- Only IDLE is used by no command (10_state R29). -/
theorem Phase.usedBy_eq_nil {p : Phase} : p.usedBy = [] ↔ p = .idle := by
  cases p <;> simp [Phase.usedBy]

/-- A run of the core keeps to the phases of its command. -/
theorem CoreRun.contextFitsPhase {u t : State} (h : CoreRun u t) (hu : ContextFitsPhase u) : ContextFitsPhase t := by
  have fits {p : Phase} (hp : p.usedBy = u.ctl.usedBy ∨ u.ctx.op ∈ p.usedBy) (hne : p ≠ .idle) :
      u.ctx.op ∈ p.usedBy := by
    refine hp.elim (fun he => ?_) id
    rw [he]
    exact hu fun hi => hne (Phase.usedBy_eq_nil.mp (by rw [he, hi]; rfl))
  cases h with
  | holds p n hp => exact fits hp
  | issues c body p hs hp => exact fits hp
  | answers => exact fun hne => absurd rfl hne

theorem Taken.contextFitsPhase {s u : State} (h : Taken s u) (hs : ContextFitsPhase s) : ContextFitsPhase u := by
  intro hne
  rw [h.ctl] at hne ⊢
  rw [h.ctx.resolve_left hne]
  exact hs hne

/-! ### Invariants of a step -/

/-- Settles O54: the core goes on in the phases of the command that it accepted. -/
theorem stepKeepsContextFitsPhase : Obligations.StepKeepsContextFitsPhase := by
  intro s t hs h
  cases step_effect h with
  | reset rest _ ht => exact fun hne => absurd (by rw [ht]; rfl) hne
  | agent same =>
    obtain ⟨-, -, -, -, -, hctl, hctx, -⟩ := same
    rw [ContextFitsPhase, hctl, hctx]
    exact hs
  | core _ _ u hu hrun => exact hrun.contextFitsPhase (hu.contextFitsPhase hs)

/-- Settles O51: only a receive within the contract, and the hardware reset, write LAST_RX_LEN. -/
theorem stepKeepsRxLenInRange : Obligations.StepKeepsRxLenInRange := by
  intro s t hs h
  unfold RxLenInRange at hs ⊢
  cases step_effect h with
  | reset rest _ ht => exact ht ▸ Nat.zero_le _
  | agent same =>
    obtain ⟨-, -, -, -, -, -, -, -, -, hlen, -⟩ := same
    rwa [hlen]
  | core _ _ u hu hrun =>
    rw [hrun.lastRxLen]
    exact hu.rxLen.elim (fun he => by rwa [he]) id

/-- Settles O57: no agent but whoever resets the block, and no run of the core, returns a flag to 0. -/
theorem flagsAreMonotonic : Obligations.FlagsAreMonotonic := by
  intro s t h hr
  cases step_effect h with
  | reset _ hn => exact absurd hn hr
  | agent same =>
    obtain ⟨-, hrc, hpiv, -⟩ := same
    rw [hrc, hpiv]
    exact ⟨id, id⟩
  | core _ _ u hu hrun => exact hu.rc ▸ hu.piv ▸ hrun.flags_monotonic

/-- A flag that keeps the value 0 has not been set. -/
theorem flag_absurd {b c : Bool} {P : Prop} (h : c = b) (hb : b = false) (hc : c = true) : P := by
  rw [h, hb] at hc
  cases hc

/-- Settles O58: the frames that set a flag, in the phases that look at them. -/
theorem flagsHaveTheirCauses : Obligations.FlagsHaveTheirCauses := by
  intro s t h
  cases step_effect h with
  | reset _ _ ht =>
    subst ht
    exact ⟨fun _ => nofun, fun _ => nofun⟩
  | agent same =>
    obtain ⟨-, hrc, hpiv, -⟩ := same
    exact ⟨flag_absurd hrc, flag_absurd hpiv⟩
  | core _ _ u hu hrun =>
    rw [← hu.ctl]
    cases hrun with
    | holds | issues => exact ⟨flag_absurd hu.rc, flag_absurd hu.piv⟩
    | answers hf =>
      cases hf with
      | none => exact ⟨flag_absurd hu.rc, flag_absurd hu.piv⟩
      | resetComplete hc hlen hchan hid => exact ⟨fun _ _ => ⟨hc, hlen, hchan, hid⟩, flag_absurd hu.piv⟩
      | productId hlen hid hc => exact ⟨flag_absurd hu.rc, fun _ _ => ⟨hlen, hid, hc⟩⟩

/-! ### The counters and the buffers -/

/-- Settles O59: a counter rises when its frame is built, and the frame is then the outstanding send. -/
theorem counterRisesOnlyWithAFrame : Obligations.CounterRisesOnlyWithAFrame := by
  intro s t h hr hne
  cases step_effect h with
  | reset _ hn => exact absurd hn hr
  | agent same =>
    obtain ⟨hseq, -⟩ := same
    exact absurd hseq hne
  | core _ _ u hu hrun =>
    rcases hrun.sending hu.pending with ⟨hseq, -⟩ | ⟨c, body, hseq, -, hreq⟩
    · exact absurd (hseq.trans hu.seq) hne
    · rw [hu.seq] at hseq hreq
      refine ⟨c, _, hseq, hreq, rfl, ?_⟩
      rw [hseq, SeqCounters.get_set_same]
      rfl

/-- A counter that has risen is another. -/
theorem SeqCounters.set_succ_ne (q : SeqCounters) (c : Channel) : q.set c (q.get c + 1#8) ≠ q := by
  intro h
  have hget : q.get c + 1#8 = q.get c := by rw [← SeqCounters.get_set_same q c (q.get c + 1#8), h]
  bv_omega

theorem State.turn_core {s : State} {ev : Event} (h : s.pending = some ev) : s.turn = .core := by
  simp [State.turn, h]

theorem State.turn_transport {s : State} (h : s.pending = none) (hc : s.ctl.heldOn = .receive) :
    s.turn = .transport := by
  simp [State.turn, h, hc]

/-- Settles O60: the Transport writes RX, the core writes TX. -/
theorem buffersHaveOneWriter : Obligations.BuffersHaveOneWriter := by
  intro s t h hr
  cases step_effect h with
  | reset _ hn => exact absurd hn hr
  | agent same hrx =>
    obtain ⟨-, -, -, htx, -⟩ := same
    refine ⟨fun hne => ?_, fun hne => absurd htx hne⟩
    obtain ⟨hp, hc⟩ := hrx.resolve_left hne
    exact ⟨State.turn_transport hp hc, hc⟩
  | core _ hp u hu hrun =>
    refine ⟨fun hne => absurd (hrun.rx.trans hu.rx) hne, fun hne => ⟨State.turn_core hp, ?_⟩⟩
    rcases hrun.sending hu.pending with ⟨-, htx⟩ | ⟨c, body, hseq, hheld, -⟩
    · exact absurd (htx.trans hu.tx) hne
    · rw [hseq, hu.seq]
      exact ⟨hheld, SeqCounters.set_succ_ne _ _⟩

/-! ### Receives -/

/-- The core's step after a receive that was answered `Ok(r)` records `r` and leaves RX (40_codec R89, 10_state R33). -/
theorem step_received_records {s : State} {r : Nat} (hp : s.pending = some (.received r))
    (hc : s.ctl.heldOn = .receive) (hfit : r ≤ Config.rxCap) :
    ∃ t, step s = .next t ∧ t.lastRxLen.toNat = r ∧ t.rx = s.rx := by
  have hlen := recordRx_rxLen s hfit
  have hrun := afterReceiveOk_coreRun hlen
  exact ⟨_, step_received hp hc hfit, by rw [hrun.lastRxLen, hlen], hrun.rx⟩

/-- The core's step after a receive that was answered `Err(e)` records 0 and leaves RX (40_codec R89, 10_state R33). -/
theorem step_receive_err_records {s : State} {e : TErr} (hp : s.pending = some (.answeredErr e))
    (hc : s.ctl.heldOn = .receive) : ∃ t, step s = .next t ∧ t.lastRxLen = 0#11 ∧ t.rx = s.rx := by
  have hrun := afterReceiveErr_coreRun e (recordRx 0 s)
  exact ⟨_, step_receive_err hp hc, hrun.lastRxLen, hrun.rx⟩

theorem State.rxByte_congr {s t : State} (h : t.rx = s.rx) (i : Nat) : t.rxByte i = s.rxByte i := by
  rw [State.rxByte, State.rxByte, h]

/-- Two steps, one after the other. -/
theorem steps_two {s t u : State} (h1 : step s = .next t) (h2 : step t = .next u) : steps 2 s = .next u := by
  simp only [steps, h1, h2]

/-- The bytes that arrived stand in RX at their offsets. -/
theorem FrameArrived.rxByte {frame : List Byte} {s : State} (h : FrameArrived frame s) {i : Nat}
    (hi : i < frame.length) : s.rxByte i = frame.getD i 0#8 := by
  obtain ⟨-, hb⟩ := h
  rw [← hb, List.getD_eq_getElem _ _ (by simpa using hi)]
  simp [State.rxBytes]

/-- Settles O21: the Transport writes RX, and the core's step after it records the length and leaves RX. -/
theorem receiveRecordsLengthAndBytes : Obligations.ReceiveRecordsLengthAndBytes := by
  intro s rest hp hc
  constructor
  · intro frame hl hfit
    obtain ⟨u, hstep, harr, hrest, hu⟩ := step_receive_ok hp hc hl hfit
    obtain ⟨t, hcore, hlen, hrx⟩ := step_received_records harr.1 (by rw [hu]; exact hc) hfit
    refine ⟨t, steps_two hstep hcore, hlen, fun i hi => ?_, fun i hi => ?_⟩ <;> rw [State.rxByte_congr hrx]
    · exact harr.rxByte hi
    · exact hrest i hi
  · intro e hl
    obtain ⟨u, hstep, hdraw, hu⟩ := step_receive_failed hp hc hl
    obtain ⟨t, hcore, hlen, hrx⟩ := step_receive_err_records (s := u) (e := e) (by rw [hu]) (by rw [hu]; exact hc)
    exact ⟨t, steps_two hstep hcore, hlen, fun i => (State.rxByte_congr hrx i).trans (hdraw i)⟩

/-! ### The STATUS word -/

theorem flagBit_getLsbD (b : Bool) (i : Nat) : (flagBit b).getLsbD i = (b && decide (i = 0)) := by
  cases b <;> simp [flagBit]

/-- Each bit of STATUS, as the bits of its fields at their places (10_state R34). -/
theorem statusWord_getLsbD (s : State) {i : Nat} (hi : i < 32) :
    (statusWord s).getLsbD i =
      (s.rc && decide (i = 0) || s.piv && decide (i = 1) || !decide (i < 4) && s.lastRoute.code.getLsbD (i - 4)
        || !decide (i < 8) && s.lastCond.code.getLsbD (i - 8) || !decide (i < 16) && s.lastRxLen.getLsbD (i - 16)) := by
  have hpiv : (!decide (i < 1) && decide (i - 1 = 0)) = decide (i = 1) := by
    rw [← decide_not, ← Bool.decide_and]
    exact decide_eq_decide.mpr (by omega)
  have hin (k : Nat) : decide (i - k < 32) = true := decide_eq_true (by omega)
  simp only [statusWord, BitVec.getLsbD_or, BitVec.getLsbD_shiftLeft, BitVec.getLsbD_setWidth, flagBit_getLsbD, hi, hin,
    decide_true, Bool.true_and, ← hpiv]
  cases s.piv <;> simp

/-- Settles O41: each field of STATUS is read bit by bit. -/
theorem statusWordFields : Obligations.StatusWordFields := by
  intro s
  refine ⟨?rc, ?piv, ?_, ?_, ?_, ?_, ?_, ?_⟩
  case rc | piv =>
    rw [statusWord_getLsbD s (by decide)]
    simp
  all_goals
    apply BitVec.eq_of_getLsbD_eq
    intro i hi
    simp only [BitVec.getLsbD_extractLsb', hi, decide_true, Bool.true_and]
    rw [statusWord_getLsbD s (by omega)]
    interval_cases i <;> simp [BitVec.getLsbD_of_ge]

/-! ### Reset -/

/-- The hardware reset is the idle core's step when it is the Host's next event (70_reset R155). -/
theorem step_hardwareReset {s : State} {rest : List HostEvent} (hp : s.pending = none) (hc : s.ctl = .idle)
    (hh : s.host = .hardwareReset :: rest) : step s = .next (hardwareReset (s.setHost rest)) := by
  rw [step_idle hp hc, hostStep, hh]

theorem SeqCounters.zero_get (c : Channel) : SeqCounters.zero.get c = 0#8 := by cases c <;> rfl

/-- Settles O13: the registers take the values of the reset state, the buffers a new draw. -/
theorem hardwareResetSetsEveryRegister : Obligations.HardwareResetSetsEveryRegister := by
  intro s rest hc hp hh
  exact ⟨_, step_hardwareReset hp hc hh, SeqCounters.zero_get, rfl, rfl, rfl, rfl, rfl, rfl, fun _ => rfl, fun _ => rfl,
    rfl, rfl, rfl, rfl⟩

/-- Settles O14: each register of the reset state, read off. -/
theorem resetValues : Obligations.ResetValues :=
  ⟨SeqCounters.zero_get, rfl, rfl, rfl, rfl, rfl, rfl, rfl, rfl⟩

/-- Settles O56: an idle core that has been handed nothing, with unwritten buffers and no response. -/
theorem resetMeetsTheInvariants : Obligations.ResetMeetsTheInvariants :=
  ⟨reset_memory_wf, trivial, Nat.zero_le _, ⟨nofun, nofun⟩, fun _ => rfl, fun hne => absurd rfl hne, trivial⟩

end Sys2Proof.Machine

/-!
PROOF. The buffers and the outstanding send (spec 20_memory, 40_codec R88): what a step can do to the frame in TX, and the
statements that every step keeps both buffers canonical and the outstanding send the frame of its command.
-/

namespace Sys2Proof.Machine

/-! ### The frame of a send phase -/

/-- The frame that the command in the context `x` issues in a phase held on a send: its channel and its body, which fits TX
(20_memory R42, 30_encoding R64, R65, R67, 44_host_ops R130). -/
inductive FrameOf (x : Ctx) : Phase → Channel → List Byte → Prop
  | initReset : FrameOf x .initResetTx .executable softResetBody
  | softReset : FrameOf x .softResetTx .executable softResetBody
  | initVerify : FrameOf x .initVerifyTx .hubControl productIdRequestBody
  | verify : FrameOf x .verifyTx .hubControl productIdRequestBody
  | enable : FrameOf x .enableTx .hubControl
      (setFeatureBody (if x.op = 0x04#8 then x.a8 else Config.rotationVectorId) (intervalUs x.intervalMs))
  | send (c : Channel) (hc : x.a8 = c.toByte) (hfit : x.body.length + Config.hdr ≤ Config.txCap) :
      FrameOf x .sendTx c x.body

theorem FrameOf.fits {x : Ctx} {p : Phase} {c : Channel} {body : List Byte} (h : FrameOf x p c body) :
    body.length + Config.hdr ≤ Config.txCap := by
  cases h with
  | initReset | softReset | initVerify | verify => decide
  | enable => rw [setFeatureBody_length]; decide
  | send _ _ hfit => exact hfit

/-- A phase whose frame stands in TX, with the current count of its channel, has its outstanding send. -/
theorem FrameOf.outstandingFrame {s : State} {p : Phase} {c : Channel} {body : List Byte} (h : FrameOf s.ctx p c body)
    (hp : s.ctl = p) (htx : s.txBytes s.txLen = builtFrame c (s.seq.get c) body) : OutstandingFrame s := by
  unfold OutstandingFrame
  rw [hp]
  cases h with
  | initReset | softReset | initVerify | verify | enable => exact htx
  | send _ hc hfit =>
    have hlen : s.txLen = Config.hdr + s.ctx.body.length := by
      rw [← builtFrame_length c (s.seq.get c), ← htx, State.txBytes_length]
    exact ⟨c, hc, hfit, hlen.trans (Nat.add_comm _ _), htx⟩

/-- A core that is held on no send has no outstanding one. -/
theorem outstandingFrame_of_not_send {s : State} (h : s.ctl.heldOn ≠ .send) : OutstandingFrame s := by
  unfold OutstandingFrame
  cases hc : s.ctl
  case initResetTx | softResetTx | initVerifyTx | verifyTx | enableTx | sendTx =>
    exact absurd (congrArg Phase.heldOn hc) h
  all_goals trivial

theorem State.txBytes_congr {s t : State} (h : t.tx = s.tx) (n : Nat) : t.txBytes n = s.txBytes n :=
  List.map_congr_left fun i _ => by rw [State.txByte, State.txByte, h]

theorem SameCore.outstandingFrame {s t : State} (h : SameCore s t) (hs : OutstandingFrame s) : OutstandingFrame t := by
  obtain ⟨hseq, -, -, htx, hlen, hctl, hctx, -⟩ := h
  unfold OutstandingFrame at hs ⊢
  rw [State.txBytes_congr htx, hseq, hlen, hctl, hctx]
  exact hs

/-! ### What the core does about its sends -/

/-- What a run of the core from `u` does about sends: it ends held on none and leaves TX, or it issues the frame of the phase
that it goes to (40_codec R88). -/
inductive CoreSend (u : State) : State → Prop
  | rests {t : State} (htx : t.tx = u.tx) (hc : t.ctl.heldOn ≠ .send) : CoreSend u t
  | issues {c : Channel} {body : List Byte} {p : Phase} (hf : FrameOf u.ctx p c body) :
      CoreSend u ((builtState c body u).setCtl p)

theorem CommandStart.coreSend {s t : State} {op a8 : Byte} {a16 : Half} {intervalMs : Word} {body : List Byte}
    (h : CommandStart s a8 a16 intervalMs body op t) : CoreSend (accepted op a8 a16 intervalMs body s) t := by
  cases h with
  | init | oversized | receive | handle | eatOne | eatAll | read => exact .rests rfl nofun
  | softReset => exact .issues .softReset
  | verify => exact .issues .verify
  | enableReport | enableRotationVector => exact .issues .enable
  | send c hc hfit => exact .issues (.send c hc hfit)

theorem afterSetup_coreSend (u : State) : CoreSend u (afterSetup u) := by
  rw [afterSetup_eq]
  exact .issues .initReset

theorem verifyStart_coreSend (u : State) : CoreSend u (verifyStart .initVerifyTx u) := by
  rw [verifyStart_eq]
  exact .issues .initVerify

theorem verifyReceived_coreSend (r : Nat) (u : State) : CoreSend u (verifyReceived r u) := by
  rcases verifyReceived_cases r u with ⟨h, -⟩ | ⟨b, h⟩ <;> rw [h] <;> exact .rests rfl nofun

theorem handleReceived_coreSend (r : Nat) (u : State) : CoreSend u (handleReceived r u) := by
  obtain ⟨_, _, _, f, h, -, hf⟩ := handleReceived_cases r u
  rw [h]
  rcases hf with rfl | ⟨rfl, -⟩ | ⟨rfl, -⟩ <;> exact .rests rfl nofun

section
variable {u : State}

theorem afterSend_coreSend (hu : u.ctl.heldOn = .send) : CoreSend u (afterSend u) := by
  cases hc : u.ctl <;> simp only [afterSend, hc]
  case initResetTx | initVerifyTx | verifyTx | softResetTx | enableTx | sendTx => exact .rests rfl nofun
  all_goals cases hc ▸ hu

theorem afterWait_coreSend {n : Nat} (hu : u.ctl.heldOn = .wait n) : CoreSend u (afterWait u) := by
  cases hc : u.ctl <;> simp only [afterWait, hc]
  case initWaitReset | initWaitSettle | initDrainWait | eatAllWait => exact .rests rfl nofun
  all_goals cases hc ▸ hu

theorem afterReceiveErr_coreSend (e : TErr) (hu : u.ctl.heldOn = .receive) : CoreSend u (afterReceiveErr e u) := by
  cases hc : u.ctl <;> simp only [afterReceiveErr, hc]
  case initDrainRx => exact verifyStart_coreSend u
  case initDiscardRx | initVerifyRx | verifyRx | recvRx | handleRx | eatRx | eatAllRx => exact .rests rfl nofun
  all_goals cases hc ▸ hu

theorem afterReceiveOk_coreSend (r : Nat) (hu : u.ctl.heldOn = .receive) : CoreSend u (afterReceiveOk r u) := by
  cases hc : u.ctl <;> simp only [afterReceiveOk, hc]
  case initDrainRx =>
    split
    · exact verifyStart_coreSend u
    · exact .rests rfl nofun
  case initVerifyRx | verifyRx => exact verifyReceived_coreSend r u
  case handleRx => exact handleReceived_coreSend r u
  case eatAllRx => split <;> exact .rests rfl nofun
  case initDiscardRx | recvRx | eatRx => exact .rests rfl nofun
  all_goals cases hc ▸ hu

end

/-- An issued frame fits TX (20_memory R48). -/
theorem CoreSend.tx_wf {u t : State} (h : CoreSend u t) (hu : u.tx.wf Config.txCap = true) :
    t.tx.wf Config.txCap = true := by
  cases h with
  | rests htx => rwa [htx]
  | issues hf => exact builtState_tx_wf _ _ u hu hf.fits

/-- A run of the core ends with no send outstanding, or with that of its command. -/
theorem CoreSend.outstandingFrame {u t : State} (h : CoreSend u t) : OutstandingFrame t := by
  cases h with
  | rests _ hc => exact outstandingFrame_of_not_send hc
  | @issues c body p hf =>
    refine hf.outstandingFrame (s := (builtState c body u).setCtl p) rfl ?_
    simp [builtState_txBytes]

/-! ### What a step does about the sends -/

/-- What a step does about the sends: the hardware reset draws TX anew, another agent leaves the core's registers, and the
core runs from a state in which it has taken an event. -/
inductive SendEffect (s t : State) : Prop
  | reset (rest : List HostEvent) (ht : t = hardwareReset (s.setHost rest))
  | agent (same : SameCore s t)
  | core (u : State) (htx : u.tx = s.tx) (hrun : CoreSend u t)

theorem step_sendEffect {s t : State} (h : step s = .next t) : SendEffect s t := by
  cases step_move h with
  | reset rest => exact .reset rest rfl
  | rest | presented | silent | answered | filled | spoiled | delayed =>
    exact .agent ⟨rfl, rfl, rfl, rfl, rfl, rfl, rfl, rfl, rfl, rfl, rfl, rfl⟩
  | refused | failed => exact .core s.taken rfl (.rests rfl nofun)
  | command _ _ _ ht => exact .core (accepted _ _ _ _ _ s) rfl ht.coreSend
  | setup => exact .core s.taken rfl (afterSetup_coreSend _)
  | sent _ hc => exact .core s.taken rfl (afterSend_coreSend hc)
  | waited _ _ hc => exact .core s.taken rfl (afterWait_coreSend hc)
  | receiveFailed e _ hc => exact .core (recordRx 0 s) rfl (afterReceiveErr_coreSend e hc)
  | received r _ hc => exact .core (recordRx r s) rfl (afterReceiveOk_coreSend r hc)

/-- Settles O50: another agent leaves the frame and what it is built from, and a run of the core ends with the frame of its
command or with none. -/
theorem stepKeepsOutstandingFrame : Obligations.StepKeepsOutstandingFrame := by
  intro s t hs h
  cases step_sendEffect h with
  | reset _ ht => exact outstandingFrame_of_not_send (ht ▸ nofun)
  | agent same => exact same.outstandingFrame hs
  | core _ _ hrun => exact hrun.outstandingFrame

/-! ### The canonical form -/

/-- The core's step leaves RX (10_state R25, 20_memory R38). -/
theorem step_core_rx {s t : State} {ev : Event} (hp : s.pending = some ev) (h : step s = .next t) : t.rx = s.rx := by
  cases step_effect h with
  | reset _ hr =>
    obtain ⟨-, hn, -⟩ := hr
    cases hp.symm.trans hn
  | agent _ hrx => exact hrx.resolve_right fun ⟨hn, _⟩ => nomatch hp.symm.trans hn
  | core _ _ u hu hrun => exact hrun.rx.trans hu.rx

/-- A step fills RX within its capacity, draws it anew, or leaves it (20_memory R40, R41, R48). -/
theorem step_rx_wf {s t : State} (hs : s.rx.wf Config.rxCap = true) (h : step s = .next t) :
    t.rx.wf Config.rxCap = true := by
  cases step_move h with
  | reset | spoiled => exact Buffer.redraw_wf _ _
  | filled v frame _ _ hfit => exact fillRx_rx_wf frame (s.setTransport v) hs hfit
  | rest | presented | silent | answered | delayed => exact hs
  | refused _ hp | command _ hp | setup hp | sent hp | failed _ hp | receiveFailed _ hp | received _ hp | waited _ hp =>
    rwa [step_core_rx hp h]

/-- A step issues a frame that fits TX, draws TX anew, or leaves it (20_memory R48, 40_codec R86). -/
theorem step_tx_wf {s t : State} (hs : s.tx.wf Config.txCap = true) (h : step s = .next t) :
    t.tx.wf Config.txCap = true := by
  cases step_sendEffect h with
  | reset _ ht => exact ht ▸ Buffer.redraw_wf _ _
  | agent same =>
    obtain ⟨-, -, -, htx, -⟩ := same
    rwa [htx]
  | core _ htx hrun => exact hrun.tx_wf (htx ▸ hs)

/-- Settles O49: each buffer by its one writer, the Transport for RX and the core for TX. -/
theorem stepKeepsBuffersCanonical : Obligations.StepKeepsBuffersCanonical := by
  intro s t hs h
  rw [Memory.wf_iff] at hs ⊢
  obtain ⟨hrx, htx⟩ := hs
  exact ⟨step_rx_wf hrx h, step_tx_wf htx h⟩

end Sys2Proof.Machine

/-!
PROOF. Host commands (spec 30_encoding R71 to R76, 44_host_ops R127, R128): what acceptance makes of every command word, and
the statements on the command decoder, on illegal words and on other transfers.
-/

namespace Sys2Proof

open Machine

/-! ### Operands -/

/-- A byte of a known number is that number's byte. -/
theorem eq_ofNat_of_toNat_eq {b : Byte} {n : Nat} (h : b.toNat = n) : b = BitVec.ofNat 8 n := by
  rw [← h, BitVec.ofNat_toNat, BitVec.setWidth_eq]

@[simp] theorem le32_length (v : Word) : (le32 v).length = 4 := rfl

@[simp] theorem intervalOf_le32 (v : Word) : intervalOf (le32 v) = v := ofLe32_extract v

/-- Four operand bytes are the interval that they hold (30_encoding R74). -/
theorem le32_intervalOf {operands : List Byte} (h : operands.length = 4) : le32 (intervalOf operands) = operands := by
  obtain ⟨b0, b1, b2, b3, rfl⟩ := List.length_eq_four.mp h
  exact le32_ofLe32 b0 b1 b2 b3

/-- An `a16` field below 1024 is an RX offset (44_host_ops R134). -/
theorem field_setWidth_setWidth {a16 : Half} (h : a16.toNat < 1024) : (a16.setWidth 10).setWidth 16 = a16 :=
  BitVec.setWidth_setWidth_eq_self h

/-- A byte that names a channel is at most 5 (30_encoding R58). -/
theorem ofByte_some_le {b : Byte} {c : Channel} (h : Channel.ofByte b = some c) : b.toNat ≤ 5 :=
  Nat.not_lt.mp fun hlt => nomatch h.symm.trans (Channel.ofByte_eq_none.mpr hlt)

/-! ### The bytes of a command -/

/-- A word with the operand bytes of its opcode is decoded by the acceptance checks (44_host_ops R127). -/
theorem decodeCommand_commandBytes {op a8 : Byte} {a16 : Half} {operands : List Byte}
    (h : operands.length = operandCount op a16) :
    decodeCommand (commandBytes op a8 a16 operands) = acceptFields op a8 a16 operands := by
  simp [decodeCommand, commandBytes, le16, ofLe16_extract, h]

/-- Bytes that decode as a command are a word, with the operand bytes of its opcode, that acceptance takes. -/
theorem decodeCommand_ok {b : List Byte} {i : Instr} (h : decodeCommand b = .ok i) :
    ∃ op a8 a16 operands, b = commandBytes op a8 a16 operands ∧ operands.length = operandCount op a16
      ∧ acceptFields op a8 a16 operands = .ok i := by
  unfold decodeCommand at h
  split at h
  · rename_i op a8 lo hi operands
    dsimp only at h
    split at h
    · exact ⟨op, a8, ofLe16 lo hi, operands, by rw [commandBytes, le16_ofLe16]; rfl, ‹_›, h⟩
    · cases h
  · cases h

/-- Settles O1: each command's own word passes its acceptance checks, and its operand is read back. -/
theorem commandDecodeEncode : Obligations.CommandDecodeEncode := by
  intro i check hi hw
  cases i with
  | init | softReset | verifyProductId | receivePacket | handleOne | eatOne | eatAll | readStatus => rfl
  | enableReport | enableRotationVector | readSeq =>
    rw [encode, decodeCommand_commandBytes rfl]
    simp [acceptFields]
  | sendFrame chan body =>
    have hlen : body.length < 65536 := of_decide_eq_true hw
    have hfield : (BitVec.ofNat 16 body.length).toNat = body.length := by
      rw [BitVec.toNat_ofNat, Nat.mod_eq_of_lt hlen]
    rw [encode, decodeCommand_commandBytes hfield.symm]
    simp [acceptFields]
  | readRx off =>
    have hoff : (off.setWidth 16).toNat < Config.rxCap := by
      rw [BitVec.toNat_setWidth_of_le (by decide)]
      exact off.isLt
    rw [encode, decodeCommand_commandBytes rfl]
    exact (if_pos ⟨rfl, hoff⟩).trans (by simp)
  | _ => cases hi

/-! ### Every command word -/

/-- What acceptance makes of a word: it refuses an illegal one and reads any other as the command of those very bytes
(30_encoding R75, R76, 44_host_ops R127). -/
inductive Acceptance (op a8 : Byte) (a16 : Half) (operands : List Byte) : Except Reject Instr → Prop
  | refused (h : IllegalWord op a8 a16) : Acceptance op a8 a16 operands (.error .badCommand)
  | taken {i : Instr} (h : ¬ IllegalWord op a8 a16) (hw : ∀ check, i.wf check = true)
      (he : encode i = commandBytes op a8 a16 operands) : Acceptance op a8 a16 operands (.ok i)

section
variable {op a8 : Byte} {a16 : Half} {operands : List Byte}

/-- A check of a word whose failure makes it illegal, and whose success makes it a command. -/
theorem Acceptance.check {p : Prop} [Decidable p] {i : Instr} (hp : IllegalWord op a8 a16 ↔ ¬ p)
    (hi : p → (∀ check, i.wf check = true) ∧ encode i = commandBytes op a8 a16 operands) :
    Acceptance op a8 a16 operands (if p then .ok i else .error .badCommand) := by
  by_cases h : p
  · rw [if_pos h]
    exact .taken (fun hill => hp.mp hill h) (hi h).1 (hi h).2
  · rw [if_neg h]
    exact .refused (hp.mpr h)

/-- Acceptance, opcode by opcode (30_encoding R73): case `h_k` of the split is opcode `k`, and `h_14` every other opcode. -/
theorem acceptFields_acceptance (hlen : operands.length = operandCount op a16) :
    Acceptance op a8 a16 operands (acceptFields op a8 a16 operands) := by
  unfold acceptFields
  dsimp only
  split
  case h_14 =>
    refine .refused ?_
    rcases Nat.eq_zero_or_pos op.toNat with h0 | hpos
    · exact .inl (eq_ofNat_of_toNat_eq h0)
    · exact .inr (.inl (show 13 < op.toNat by grind))
  all_goals
    rename_i hop
    obtain rfl := eq_ofNat_of_toNat_eq hop
  case h_4 =>
    refine .check (by simp [IllegalWord]) ?_
    rintro rfl
    exact ⟨fun _ => rfl, by rw [encode, le32_intervalOf hlen]⟩
  case h_5 =>
    refine .check (by simp [IllegalWord, imp_iff_not_or]) ?_
    rintro ⟨rfl, rfl⟩
    exact ⟨fun _ => rfl, by rw [encode, le32_intervalOf hlen]⟩
  case h_6 =>
    have hbody : operands.length = a16.toNat := hlen
    cases hc : Channel.ofByte a8 with
    | none => exact .refused (by simp [IllegalWord, Channel.ofByte_eq_none.mp hc])
    | some c =>
      refine .taken ?_ ?_ ?_
      · simp [IllegalWord, ofByte_some_le hc]
      · simp [Instr.wf, hbody, a16.isLt]
      · simp [encode, hbody, Channel.toByte_ofByte hc]
  case h_11 =>
    refine .check (by grind [IllegalWord, Config.rxCap]) ?_
    rintro ⟨rfl, hoff⟩
    exact ⟨fun _ => rfl, by rw [encode, field_setWidth_setWidth hoff, List.length_eq_zero_iff.mp hlen]⟩
  case h_12 =>
    cases hc : Channel.ofByte a8 with
    | none => exact .refused (by simp [IllegalWord, Channel.ofByte_eq_none.mp hc])
    | some c =>
      have hle := ofByte_some_le hc
      refine .check (by simp [IllegalWord, hle]) ?_
      rintro rfl
      exact ⟨fun _ => rfl, by rw [encode, Channel.toByte_ofByte hc, List.length_eq_zero_iff.mp hlen]⟩
  all_goals
    refine .check (by simp [IllegalWord, imp_iff_not_or]) ?_
    rintro ⟨rfl, rfl⟩
    exact ⟨fun _ => rfl, by rw [List.length_eq_zero_iff.mp hlen]; rfl⟩

end

/-- A command that acceptance takes is well formed, and its bytes are the word and the operand bytes. -/
theorem encode_of_decodeCommand {b : List Byte} {i : Instr} (check : Bool) (h : decodeCommand b = .ok i) :
    i.wf check = true ∧ encode i = b := by
  obtain ⟨op, a8, a16, operands, rfl, hlen, hok⟩ := decodeCommand_ok h
  have hacc := acceptFields_acceptance (a8 := a8) hlen
  rw [hok] at hacc
  cases hacc with
  | taken _ hw he => exact ⟨hw check, he⟩

/-- Settles O6: acceptance refuses an illegal word and takes every other. -/
theorem illegalWordsAreExactlyRefused : Obligations.IllegalWordsAreExactlyRefused := by
  intro op a8 a16 operands hlen
  rw [decodeCommand_commandBytes hlen]
  have hacc := acceptFields_acceptance (a8 := a8) hlen
  generalize acceptFields op a8 a16 operands = r at hacc
  cases hacc with
  | refused h => exact iff_of_true rfl h
  | taken h => exact iff_of_false nofun h

end Sys2Proof

namespace Sys2Proof.Machine

/-- Settles O7: the step refuses the presented word, which an idle core answers at once. -/
theorem refusedWordAnswersBadCommand : Obligations.RefusedWordAnswersBadCommand := by
  intro s op a8 a16 operands hc hp hlen hill
  rw [step_presented hp, (illegalWordsAreExactlyRefused op a8 a16 operands hlen).mpr hill]
  change refuseCommand s = _
  rw [refuseCommand, if_pos hc, hc]
  rfl

/-! ### Other transfers -/

/-- The Host presents bytes that are no transfer. -/
theorem step_present_other {s : State} {bytes : List Byte} {rest : List HostEvent} (hp : s.pending = none)
    (hc : s.ctl = .idle) (hh : s.host = .present bytes :: rest) (ht : isTransfer bytes = false) :
    step s = .fault .commandTransfer := by
  simp [step_idle hp hc, hostStep, hh, ht]

/-- Fewer bytes than a command word are no transfer (30_encoding R74). -/
theorem isTransfer_of_length_lt {bytes : List Byte} (h : bytes.length < 4) : isTransfer bytes = false := by
  match bytes with
  | [] | [_] | [_, _] | [_, _, _] => rfl
  | _ :: _ :: _ :: _ :: _ => simp only [List.length_cons] at h; omega

/-- Settles O8: the Host presents no transfer. -/
theorem otherTransfersHaveNoMove : Obligations.OtherTransfersHaveNoMove := by
  intro s bytes rest hc hp hh
  constructor
  · exact fun hlen => step_present_other hp hc hh (isTransfer_of_length_lt hlen)
  · rintro op a8 a16 operands rfl hlen
    exact step_present_other hp hc hh (by simpa using hlen)

end Sys2Proof.Machine

/-!
PROOF. Frames (spec 30_encoding R55 to R70): what the two frame decoders read from which bytes, and the statements that
decoding and encoding undo each other.
-/

namespace Sys2Proof

/-! ### Received frames -/

/-- A received frame whose row is well formed decodes as that row (30_encoding R59, R62). -/
theorem decodeReceived_receivedFrame {check : Bool} {h : RxHeader} {chan : Byte} {body : List Byte}
    (hw : (receivedRow h chan body).wf check = true) :
    decodeReceived check (receivedFrame h chan body) = .ok (receivedRow h chan body) := by
  simp only [decodeReceived, receivedFrame, headerOf_written, hw, if_true]

/-- Bytes that decode as a received row are a frame whose row is well formed. -/
theorem decodeReceived_ok {check : Bool} {b : List Byte} {i : Instr} (h : decodeReceived check b = .ok i) :
    ∃ hd chan body, b = receivedFrame hd chan body ∧ i = receivedRow hd chan body ∧ i.wf check = true := by
  unfold decodeReceived at h
  split at h
  · rename_i b0 b1 chan q body
    dsimp only at h
    split at h
    · rename_i hw
      injection h with h
      exact ⟨headerOf b0 b1 q, chan, body, (receivedFrame_headerOf b0 b1 chan q body).symm, h.symm, h ▸ hw⟩
    · split at h
      · cases h
      · split at h <;> cases h
  · cases h

/-- A channel above 3 is ignored, whatever its body (41_dispatch R97). -/
theorem receivedRow_ignored {h : RxHeader} {chan : Byte} {body : List Byte} (hc : 3 < chan.toNat) :
    receivedRow h chan body = .ignoredChannel h chan body := by
  unfold receivedRow
  split
  case h_5 => rfl
  all_goals omega

/-- A body of channel 3 with at most the five timestamp bytes has no report id (30_encoding R60, 41_dispatch R98). -/
theorem receivedRow_short {h : RxHeader} {body : List Byte} (hlen : body.length ≤ 5) :
    receivedRow h 3#8 body = .noReportId h 3#2 body := by
  match body with
  | [] | [_] | [_, _] | [_, _, _] | [_, _, _, _] | [_, _, _, _, _] => rfl
  | _ :: _ :: _ :: _ :: _ :: _ :: _ => simp only [List.length_cons] at hlen; omega

/-- An empty body of the channels 0 to 2, and a short one of channel 3, have no report id (41_dispatch R98). -/
theorem receivedRow_noReportId {h : RxHeader} {chan : BitVec 2} {body : List Byte}
    (hbody : if chan = 3#2 then body.length ≤ 5 else body = []) :
    receivedRow h (chan.setWidth 8) body = .noReportId h chan body := by
  have hchan : ∀ c : BitVec 2, c = 0#2 ∨ c = 1#2 ∨ c = 2#2 ∨ c = 3#2 := by decide
  rcases hchan chan with rfl | rfl | rfl | rfl
  case inr.inr.inr => exact receivedRow_short hbody
  all_goals
    cases (hbody : body = [])
    rfl

/-- The row of an instruction's own frame is the instruction, where its operands are those of its row (41_dispatch R97 to
R107). -/
theorem receivedRow_of_wf {check : Bool} {i : Instr} (hi : i.isReceived = true) (hw : i.wf check = true) :
    ∃ h chan body, encode i = receivedFrame h chan body ∧ receivedRow h chan body = i := by
  cases i with
  | sensorRotationVector h t rest =>
    exact ⟨h, _, _, rfl, by simp [receivedRow, timestampBytes, timestampOf_extract]⟩
  | sensorOther h t id rest =>
    simp only [Instr.wf, Bool.and_eq_true, bne_iff_ne] at hw
    exact ⟨h, _, _, rfl, by simp [receivedRow, timestampBytes, timestampOf_extract, hw.2]⟩
  | commandOther h id rest =>
    simp only [Instr.wf, Bool.and_eq_true, bne_iff_ne] at hw
    exact ⟨h, _, _, rfl, by simp [receivedRow, hw.2]⟩
  | executableOther h id rest =>
    simp only [Instr.wf, Bool.and_eq_true, bne_iff_ne] at hw
    exact ⟨h, _, _, rfl, by simp [receivedRow, hw.2]⟩
  | hubControlOther h id rest =>
    simp only [Instr.wf, Bool.and_eq_true, bne_iff_ne] at hw
    exact ⟨h, _, _, rfl, by simp [receivedRow, hw.2, hw.1.2]⟩
  | ignoredChannel h chan rest =>
    simp only [Instr.wf, Bool.and_eq_true, decide_eq_true_eq] at hw
    exact ⟨h, _, _, rfl, receivedRow_ignored hw.2⟩
  | noReportId h chan rest =>
    simp only [Instr.wf, Bool.and_eq_true] at hw
    refine ⟨h, _, _, rfl, receivedRow_noReportId ?_⟩
    simpa [apply_ite (· = true)] using hw.2
  | advertisement | resetComplete | commandResponse | productIdResponse => exact ⟨_, _, _, rfl, rfl⟩
  | _ => cases hi

/-- Settles O2: the row of the instruction's frame is the instruction. -/
theorem receivedDecodeEncode : Obligations.ReceivedDecodeEncode := by
  intro i check hi hw
  obtain ⟨h, chan, body, he, rfl⟩ := receivedRow_of_wf hi hw
  rw [he, decodeReceived_receivedFrame hw]

/-! ### Sent frames -/

/-- A frame that `build` writes and that fits TX decodes as its row (30_encoding R57, 40_codec R85). -/
theorem decodeSent_builtFrame {c : Channel} {q : Byte} {body : List Byte}
    (hfit : body.length + Config.hdr ≤ Config.txCap) :
    decodeSent (builtFrame c q body) = .ok (sentRow c q body) := by
  have hle : ¬ Config.txCap < Config.hdr + body.length := by omega
  simp [decodeSent, builtFrame, builtHeader, hle]

/-- Bytes that decode as a sent row are a frame that `build` writes. -/
theorem decodeSent_ok {b : List Byte} {i : Instr} (h : decodeSent b = .ok i) :
    ∃ c q body, b = builtFrame c q body ∧ i = sentRow c q body ∧ body.length + Config.hdr ≤ Config.txCap := by
  unfold decodeSent at h
  split at h
  · split at h
    · split at h
      · cases h
      · split at h
        · rename_i hh
          injection h with h
          exact ⟨_, _, _, by rw [builtFrame, hh]; rfl, h.symm, by omega⟩
        · cases h
    · cases h
  · cases h

theorem isSetFeatureBody_setFeatureBody (id : Byte) (us : Word) : isSetFeatureBody (setFeatureBody id us) = true := by
  simp [isSetFeatureBody, setFeatureBody, le32, List.replicate]

theorem sentRow_setFeature (q id : Byte) (us : Word) :
    sentRow .hubControl q (setFeatureBody id us) = .setFeature q id us := by
  have hrow : hasSentRow .hubControl (setFeatureBody id us) = true := by
    simp [hasSentRow, isSetFeatureBody_setFeatureBody]
  exact (if_pos hrow).trans (congrArg (Instr.setFeature q id) (ofLe32_extract us))

/-- The row of an instruction's own frame is the instruction (30_encoding R64, R65, R67, log 20). -/
theorem sentRow_of_wf {check : Bool} {i : Instr} (hi : i.isSent = true) (hw : i.wf check = true) :
    ∃ c q body, encode i = builtFrame c q body ∧ body.length + Config.hdr ≤ Config.txCap ∧ sentRow c q body = i := by
  cases i with
  | softResetFrame | productIdRequest => exact ⟨_, _, _, rfl, by decide, rfl⟩
  | setFeature q id us => exact ⟨_, _, _, rfl, by rw [Machine.setFeatureBody_length]; decide, sentRow_setFeature q id us⟩
  | genericFrame c q body =>
    simp only [Instr.wf, Bool.and_eq_true, decide_eq_true_eq, Bool.not_eq_true'] at hw
    exact ⟨c, q, body, rfl, hw.1, by simp [sentRow, hw.2]⟩
  | _ => cases hi

/-- Settles O3: the row of the instruction's frame is the instruction. -/
theorem sentDecodeEncode : Obligations.SentDecodeEncode := by
  intro i check hi hw
  obtain ⟨c, q, body, he, hfit, rfl⟩ := sentRow_of_wf hi hw
  rw [he, decodeSent_builtFrame hfit]

/-- A frame with a row of its own is one of the three that `softResetBody`, `productIdRequestBody` and `setFeatureBody` make
(30_encoding R64, R65, R67). -/
theorem hasSentRow_cases {c : Channel} {body : List Byte} (h : hasSentRow c body = true) :
    (c = .executable ∧ body = softResetBody)
      ∨ (c = .hubControl ∧ (body = productIdRequestBody ∨ ∃ id us, body = setFeatureBody id us)) := by
  unfold hasSentRow at h
  split at h
  · exact .inl ⟨rfl, beq_iff_eq.mp h⟩
  · rw [Bool.or_eq_true, beq_iff_eq] at h
    refine .inr ⟨rfl, h.imp_right fun hset => ?_⟩
    obtain ⟨id, b0, b1, b2, b3, hbody⟩ := isSetFeatureBody_eq hset
    exact ⟨id, _, hbody⟩
  all_goals cases h

/-- The row of a frame that fits TX is well formed. -/
theorem sentRow_wf (check : Bool) {c : Channel} (q : Byte) {body : List Byte}
    (hfit : body.length + Config.hdr ≤ Config.txCap) : (sentRow c q body).wf check = true := by
  by_cases hrow : hasSentRow c body = true
  · rcases hasSentRow_cases hrow with ⟨rfl, rfl⟩ | ⟨rfl, rfl | ⟨id, us, rfl⟩⟩
    · rfl
    · rfl
    · rw [sentRow_setFeature]
      rfl
  · simp [sentRow, hrow, Instr.wf, hfit]

/-! ### From the bytes back -/

/-- Settles O4: each decoder's instruction is the row of the bytes, and a row's bytes are its frame or its word. -/
theorem decodedBytesAreTheEncoding : Obligations.DecodedBytesAreTheEncoding := by
  intro check b i
  refine ⟨?command, ?received, ?sent⟩
  case command => exact fun h => ⟨Machine.decodeCommand_isCommand h, encode_of_decodeCommand check h⟩
  case received =>
    intro h
    obtain ⟨hd, chan, body, rfl, rfl, hw⟩ := decodeReceived_ok h
    obtain ⟨hrec, henc⟩ := receivedRow_encode hd chan body
    exact ⟨hrec, hw, henc⟩
  case sent =>
    intro h
    obtain ⟨c, q, body, rfl, rfl, hfit⟩ := decodeSent_ok h
    obtain ⟨hsent, henc⟩ := sentRow_encode c q body
    exact ⟨hsent, sentRow_wf check q hfit, henc⟩

/-! ### Words written out -/

/-- Settles O5: each word and frame, decoded. -/
theorem specWordsDecode : Obligations.SpecWordsDecode := by
  refine ⟨?_, ?_, ?_, ?_, ?_, ?_, ?_, ?_, ?_⟩ <;> decide

end Sys2Proof

/-!
PROOF. Events without a move and the response port (spec 30_encoding R71, 60_exceptions R143, R150, 20_memory R40).
-/

namespace Sys2Proof.Machine

/-! ### Events outside the contracts -/

/-- A host command has no move while another is in progress (30_encoding R71). -/
theorem exec_command_busy {s : State} {i : Instr} (hi : i.isCommand = true) (hc : s.ctl ≠ .idle) :
    exec i s = .fault .commandWhileBusy := by
  cases i with
  | init | softReset | verifyProductId | enableReport | enableRotationVector | sendFrame | receivePacket | handleOne | eatOne
  | eatAll | readRx | readSeq | readStatus => exact if_neg hc
  | _ => cases hi

/-- A frame that is not the answered send is not taken (60_exceptions R150, log 12). -/
theorem transmit_unanswered {s : State} {frame : List Byte}
    (h : ¬ (s.ctl.heldOn = .send ∧ s.txBytes s.txLen = frame
      ∧ (s.pending = some .answeredOk ∨ ∃ e, s.pending = some (.answeredErr e)))) :
    transmit frame s = .fault .noSendOutstanding := by
  unfold transmit
  split
  · rename_i hsend
    obtain ⟨hc, hf⟩ := hsend
    split
    · exact absurd ⟨hc, hf, .inl ‹_›⟩ h
    · exact absurd ⟨hc, hf, .inr ⟨_, ‹_›⟩⟩ h
    all_goals rfl
  · rfl

/-- A frame that did not answer the outstanding receive is not delivered (60_exceptions R150, log 11). -/
theorem deliver_unasked {s : State} {frame : List Byte} (h : ¬ (s.ctl.heldOn = .receive ∧ FrameArrived frame s)) :
    deliver frame s = .fault .noReceiveOutstanding := if_neg h

/-- More bytes than RX holds overrun it (20_memory R40, log 11). -/
theorem handReceive_overrun {frame : List Byte} (s : State) (h : Config.rxCap < frame.length) :
    handReceive (.ok frame, s) = .fault .receiveOverrun := if_pos h

/-- An `Ok` that answers neither a `setup` nor a `send` has no move (60_exceptions R150, log 12). -/
theorem step_answeredOk_unasked {s : State} (hp : s.pending = some .answeredOk) (hsetup : s.ctl.heldOn ≠ .setup)
    (hsend : s.ctl.heldOn ≠ .send) : step s = .fault .noRequestOutstanding := by
  simp only [step_core hp, fetch, hp, fetchAnswered]
  cases hc : s.ctl.heldOn with
  | setup => exact absurd hc hsetup
  | send => exact absurd hc hsend
  | host | receive | wait => rfl

/-- A completion of no wait has no move (60_exceptions R150, log 12). -/
theorem step_waited_unasked {s : State} (hp : s.pending = some .waited) (h : ∀ units, s.ctl.heldOn ≠ .wait units) :
    step s = .fault .noRequestOutstanding := by
  simp only [step_core hp, fetch, hp]
  cases hc : s.ctl.heldOn with
  | wait units => exact absurd hc (h units)
  | host | setup | send | receive => rfl

/-- Settles O44: each event, by the operation that finds it without a move. -/
theorem eventsWithoutAMove : Obligations.EventsWithoutAMove := by
  intro s i
  refine ⟨exec_command_busy, ?sent, ?received, ?overrun, step_answeredOk_unasked, step_waited_unasked⟩
  case sent => exact fun hi h => (exec_sent hi s).trans (transmit_unanswered h)
  case received => exact fun hi h => (exec_received hi s).trans (deliver_unasked h)
  case overrun => exact fun _ _ hp hc hl hlen => (step_receive_listed hp hc hl).trans (handReceive_overrun _ hlen)

/-! ### The response port -/

theorem silentWhileBusy_idle {t : State} (h : t.ctl = .idle) : SilentWhileBusy t := fun hne => absurd h hne

theorem SilentWhileBusy.of_sameCore {s t : State} (hs : SilentWhileBusy s) (h : SameCore s t) : SilentWhileBusy t := by
  obtain ⟨-, -, -, -, -, hctl, -, -, -, -, hresp, -⟩ := h
  rw [SilentWhileBusy, hctl, hresp]
  exact hs

/-- A busy core has an empty port, also when it takes the answer to its request. -/
theorem SilentWhileBusy.response {s : State} (hs : SilentWhileBusy s) (hc : s.ctl.heldOn ≠ .host) : s.response = none :=
  hs fun hidle => hc (congrArg Phase.heldOn hidle)

/-- A run of the core from an empty port answers the Host only as it goes idle (60_exceptions R143). -/
theorem CoreRun.silentWhileBusy {u t : State} (h : CoreRun u t) (hu : u.response = none) : SilentWhileBusy t := by
  cases h with
  | holds | issues => exact fun _ => hu
  | answers => exact silentWhileBusy_idle rfl

/-- Settles O53: acceptance empties the port, and a run of the core answers only as it goes idle. -/
theorem stepKeepsPortSilentWhileBusy : Obligations.StepKeepsPortSilentWhileBusy := by
  intro s t hs h
  cases step_move h with
  | reset | refused | failed => exact silentWhileBusy_idle rfl
  | rest | presented | silent | answered | filled | spoiled | delayed =>
    exact hs.of_sameCore ⟨rfl, rfl, rfl, rfl, rfl, rfl, rfl, rfl, rfl, rfl, rfl, rfl⟩
  | command _ _ _ ht => exact ht.coreRun.silentWhileBusy rfl
  | setup _ hc => exact (afterSetup_coreRun (Phase.heldOn_setup hc)).silentWhileBusy (hs.response (hc ▸ nofun))
  | sent _ hc => exact (afterSend_coreRun _).silentWhileBusy (hs.response (hc ▸ nofun))
  | waited _ _ hc => exact (afterWait_coreRun _).silentWhileBusy (hs.response (hc ▸ nofun))
  | receiveFailed e _ hc => exact (afterReceiveErr_coreRun e _).silentWhileBusy (hs.response (hc ▸ nofun))
  | received r _ hc hfit =>
    exact (afterReceiveOk_coreRun (recordRx_rxLen s hfit)).silentWhileBusy (hs.response (hc ▸ nofun))

end Sys2Proof.Machine

/-!
PROOF. Sequencer and codec (spec 40_codec): what `next`, `build` and `parse` give, and what the core makes of the answer to a
send, and of a receive that it does not dispatch.
-/

namespace Sys2Proof

/-- The low byte of a length field (30_encoding R57). -/
theorem lengthByte_low (n : Nat) : BitVec.ofNat 8 n = (BitVec.ofNat 16 n).extractLsb' 0 8 := by
  apply BitVec.eq_of_toNat_eq
  simp only [extract_toNat, BitVec.toNat_ofNat]
  omega

/-- The high byte of a length field (30_encoding R57). -/
theorem lengthByte_high (n : Nat) : BitVec.ofNat 8 (n / 256) = (BitVec.ofNat 16 n).extractLsb' 8 8 := by
  apply BitVec.eq_of_toNat_eq
  simp only [extract_toNat, BitVec.toNat_ofNat]
  omega

end Sys2Proof

namespace Sys2Proof.Machine

/-! ### The sequence counters -/

/-- The value that `next(c)` returns, as a number (40_codec R82, R83). -/
theorem next_value_toNat (c : Channel) (s : State) : (next c s).1.toNat = ((s.seq.get c).toNat + 1) % 256 :=
  BitVec.toNat_add (s.seq.get c) 1#8

@[simp] theorem next_get_same (c : Channel) (s : State) : (next c s).2.seq.get c = (next c s).1 :=
  SeqCounters.get_set_same _ _ _

theorem next_get_ne {c d : Channel} (s : State) (h : d ≠ c) : (next c s).2.seq.get d = s.seq.get d :=
  SeqCounters.get_set_ne _ _ h

/-- Settles O15: `next` adds 1 to its own counter. -/
theorem nextIncrementsOneCounter : Obligations.NextIncrementsOneCounter := fun c s =>
  ⟨next_value_toNat c s, next_get_same c s, fun _ hd => next_get_ne s hd, rfl⟩

/-- Settles O16, by induction on the calls: one on `c` returns the first of the values, one on another channel leaves the
counter of `c`. -/
theorem callsOfNextCount : Obligations.CallsOfNextCount := by
  intro calls c s
  induction calls generalizing s with
  | nil => rfl
  | cons d rest ih =>
    by_cases hd : d = c
    · subst hd
      rw [List.count_cons_self, List.range_succ_eq_map]
      simp [nextCalls, ih, next_value_toNat, Nat.add_left_comm 1, Nat.add_assoc]
    · simp [nextCalls, ih, hd, next_get_ne s (Ne.symm hd)]

/-! ### Building a frame -/

/-- `build` of a body that fits answers its length and `builtState` (40_codec R85). -/
theorem build_fits {c : Channel} {body : List Byte} (s : State) (hfit : body.length + Config.hdr ≤ Config.txCap) :
    build c body s = some (body.length + Config.hdr, builtState c body s) := by
  rw [build_eq, if_neg (by omega)]

/-- The bytes of TX below the header's length are the built header (30_encoding R57). -/
theorem builtState_txByte_header (c : Channel) (body : List Byte) (s : State) {i : Nat} (hi : i < Config.hdr) :
    (builtState c body s).txByte i
      = (builtHeader (body.length + Config.hdr) c (s.seq.get c + 1#8)).getD i 0#8 := by
  rw [builtState_txByte, if_pos hi]

/-- The bytes of TX after the header are the body (40_codec R85). -/
theorem builtState_txByte_body (c : Channel) (body : List Byte) (s : State) {i : Nat} (hi : i < body.length) :
    (builtState c body s).txByte (Config.hdr + i) = body.getD i 0#8 := by
  rw [builtState_txByte, if_neg (by omega), if_pos (by omega), Nat.add_sub_cancel_left]

/-- The bytes of TX beyond the frame are kept (40_codec R85). -/
theorem builtState_txByte_beyond (c : Channel) (body : List Byte) (s : State) {i : Nat}
    (hi : body.length + Config.hdr ≤ i) : (builtState c body s).txByte i = s.txByte i := by
  rw [builtState_txByte, if_neg (by omega), if_neg (by omega)]

/-- Settles O17: `builtState`, byte by byte. -/
theorem buildWritesHeaderAndBody : Obligations.BuildWritesHeaderAndBody := by
  intro c body s hlen
  have header {i : Nat} (hi : i < Config.hdr) := builtState_txByte_header c body s hi
  refine ⟨_, build_fits s (Nat.add_le_add_right hlen 4), ?low, ?high, header (i := 2) (by decide),
    header (i := 3) (by decide), fun i hi => builtState_txByte_body c body s hi,
    fun i hi => builtState_txByte_beyond c body s hi, rfl, rfl, rfl⟩
  case low => exact (header (i := 0) (by decide)).trans (lengthByte_low _)
  case high => exact (header (i := 1) (by decide)).trans (lengthByte_high _)

/-- Settles O18: OversizedBody ends the command and writes neither TX nor a counter. -/
theorem oversizedBodyWritesNothing : Obligations.OversizedBodyWritesNothing := by
  intro c body p s hover
  rw [txFrame_oversized c body s p hover]
  exact ⟨if_pos hover, rfl, fun _ => rfl, fun _ => rfl⟩

/-! ### Parse -/

/-- A frame of fewer bytes than a header is `Corrupt` (40_codec R92). -/
theorem parse_short (check : Bool) {frame : List Byte} (h : frame.length < 4) : parse check frame = none := by
  match frame with
  | [] | [_] | [_, _] | [_, _, _] => rfl
  | _ :: _ :: _ :: _ :: _ => simp only [List.length_cons] at h; omega

/-- The declared length leaves out the two reserved bits of the second byte (30_encoding R56). -/
theorem declen_eq (b0 b1 : Byte) : declen b0 b1 = b1.toNat % 64 * 256 + b0.toNat := by
  simp [declen]

/-- Settles O20: a short frame has no header, and a longer one is read by its first four bytes. -/
theorem parseValidatesLength : Obligations.ParseValidatesLength := by
  intro check frame
  refine ⟨parse_short check, ?_⟩
  rintro b0 b1 c q body rfl
  have hlen : (b0 :: b1 :: c :: q :: body).length = Config.hdr + body.length := by
    simp only [List.length_cons, Config.hdr]
    omega
  rw [parse_cons, declen_eq, hlen, declaredLength]

/-- The declared length of a built header is the frame's length, which fits its fourteen bits (30_encoding R56, R57). -/
theorem declen_lengthBytes {n : Nat} (h : n < 16384) : declen (BitVec.ofNat 8 n) (BitVec.ofNat 8 (n / 256)) = n := by
  rw [declen_eq, BitVec.toNat_ofNat, BitVec.toNat_ofNat]
  omega

/-- A built frame that fits TX parses to what it was built from, with and without the length check (40_codec R90). -/
theorem parse_builtFrame (check : Bool) {c : Channel} {q : Byte} {body : List Byte}
    (hfit : body.length + Config.hdr ≤ Config.txCap) :
    parse check (builtFrame c q body)
      = some { declen := Config.hdr + body.length, channel := c.toByte, sequence := q, body := body } := by
  have hcap : Config.txCap = 256 := rfl
  simp [builtFrame, builtHeader, parse_cons, declen_lengthBytes (n := Config.hdr + body.length) (by omega)]

/-- Settles O19: TX holds the built frame, the receive puts it into RX, and it parses to what it was built from. -/
theorem framingRoundTrip : Obligations.FramingRoundTrip := by
  intro c body s t u len check hlen hbuild
  have hfit : body.length + Config.hdr ≤ Config.txCap := Nat.add_le_add_right hlen 4
  obtain ⟨rfl, rfl⟩ : body.length + Config.hdr = len ∧ builtState c body s = t := by
    simpa [build_fits s hfit] using hbuild
  have hrx (frame : List Byte) (h : frame.length = body.length + Config.hdr) :
      (fillRx frame u).rxBytes (body.length + Config.hdr) = frame := h ▸ fillRx_rxBytes frame u
  rw [hrx _ (State.txBytes_length _ _), builtState_txBytes, parse_builtFrame check hfit, builtState_seq,
    SeqCounters.get_set_same, Nat.add_comm]

/-! ### The answer to a send -/

section
variable {s : State} {i : Instr} (hi : i.isSent = true) (hc : s.ctl.heldOn = .send)
  (htx : s.txBytes s.txLen = encode i)
include hi hc htx

/-- The row of the outstanding frame, once the Transport has answered `Ok`, goes to the phase that issued it (40_codec
R88). -/
theorem exec_sent_ok (hp : s.pending = some .answeredOk) : exec i s = .next (afterSend s.taken) := by
  rw [exec_sent hi, transmit, if_pos ⟨hc, htx⟩, hp]
  rfl

/-- The row of the outstanding frame, once the Transport has answered `Err(e)`, ends its command (60_exceptions R138). -/
theorem exec_sent_err {e : TErr} (hp : s.pending = some (.answeredErr e)) :
    exec i s = .next (raise .transportError (.transport e) s.taken) := by
  rw [exec_sent hi, transmit, if_pos ⟨hc, htx⟩, hp]
  rfl

end

/-- Settles O42: each send phase goes on as `afterSend` says. -/
theorem sentFramesComplete : Obligations.SentFramesComplete := by
  intro s i hi htx hp
  have goes {p : Phase} (hc : s.ctl = p) (hheld : p.heldOn = .send) : exec i s = .next (afterSend s.taken) :=
    exec_sent_ok hi (hc ▸ hheld) htx hp
  refine ⟨?initReset, ?initVerify, ?verify, fun hc => hc.elim ?softReset ?enable, ?send⟩
  all_goals
    intro hc
    rw [goes hc rfl, afterSend, State.taken_ctl, hc]
    rfl

/-- Settles O43: the command ends by `raise`, which writes no counter and no byte of TX. -/
theorem sendFailureKeepsTheCount : Obligations.SendFailureKeepsTheCount :=
  fun _ _ _ hi hc htx hp => exec_sent_err hi hc htx hp

/-! ### A receive that is not dispatched -/

/-- The row of an arrived frame runs as the core's step does (40_codec R93, log 13). -/
theorem exec_arrived {s : State} {i : Instr} (hi : i.isReceived = true) (harr : FrameArrived (encode i) s) :
    exec i s = step s := by
  obtain ⟨hp, hb⟩ := harr
  rw [exec_received hi, step_deliver hp, hb]

/-- Settles O31: each receive phase but HANDLE_ONE's and verification's goes on as `afterReceiveOk` says, which reads no
byte of RX. -/
theorem framesElsewhereAreNotDispatched : Obligations.FramesElsewhereAreNotDispatched := by
  intro s r hp hr
  have goes {p : Phase} (hc : s.ctl = p) (hheld : p.heldOn = .receive) :
      step s = .next (afterReceiveOk r (recordRx r s)) := step_received hp (hc ▸ hheld) hr
  refine ⟨?discard, ?drain, ?eatAll, ?eatAllEnds, fun hc => hc.elim ?receivePacket ?eatOne, ?row⟩
  case discard | receivePacket | eatOne =>
    intro hc
    rw [goes hc rfl, afterReceiveOk, recordRx_ctl, hc]
    rfl
  case drain | eatAll =>
    intro hc hne
    rw [goes hc rfl, afterReceiveOk, recordRx_ctl, hc]
    exact congrArg _ (if_neg hne)
  case eatAllEnds =>
    rintro hc rfl
    rw [goes hc rfl, afterReceiveOk, recordRx_ctl, hc]
    rfl
  case row =>
    intro i hi harr hc
    rw [exec_arrived hi harr]
    exact ⟨rfl, _, step_received hp hc hr⟩

end Sys2Proof.Machine

/-!
PROOF. The dispatcher (spec 41_dispatch): which streams the advertisement walk accepts, what `route` does with each
channel, and what HANDLE_ONE makes of a received row and of the answers that hand it none.
-/

namespace Sys2Proof.Machine

/-! ### Streams of elements -/

theorem elementStream_nil : ElementStream [] := ⟨[], by simp, rfl⟩

/-- A tag without its length byte is no element (30_encoding R61). -/
theorem not_elementStream_singleton (tag : Byte) : ¬ ElementStream [tag] := by
  rintro ⟨elements, -, h⟩
  cases elements <;> simp at h

/-- The first element of a stream is its tag, its length byte and as many value bytes (30_encoding R61). -/
theorem elementStream_cons_cons {tag n : Byte} {rest : List Byte} :
    ElementStream (tag :: n :: rest) ↔ n.toNat ≤ rest.length ∧ ElementStream (rest.drop n.toNat) := by
  constructor
  · rintro ⟨elements, hlt, h⟩
    cases elements with
    | nil => cases h
    | cons e es =>
      obtain ⟨he, hes⟩ := List.forall_mem_cons.mp hlt
      obtain ⟨-, rfl, rfl⟩ : tag = e.1 ∧ n = BitVec.ofNat 8 e.2.length
          ∧ rest = e.2 ++ es.flatMap fun e => e.1 :: BitVec.ofNat 8 e.2.length :: e.2 := by simpa using h
      have hn : (BitVec.ofNat 8 e.2.length).toNat = e.2.length := by
        rw [BitVec.toNat_ofNat, Nat.mod_eq_of_lt he]
      rw [hn, List.drop_left]
      exact ⟨by simp, es, hes, rfl⟩
  · rintro ⟨hle, es, hes, hrest⟩
    have hlen : (rest.take n.toNat).length = n.toNat := by rw [List.length_take, Nat.min_eq_left hle]
    refine ⟨(tag, rest.take n.toNat) :: es, List.forall_mem_cons.mpr ⟨hlen.trans_lt n.isLt, hes⟩, ?_⟩
    simp [hlen, ← hrest]

/-- The bounded reading of a stream is exact as soon as its bound is the stream's length. -/
theorem tlvStreamFuel_iff {fuel : Nat} {stream : List Byte} (hfuel : stream.length ≤ fuel) :
    tlvStreamFuel fuel stream = true ↔ ElementStream stream := by
  fun_induction tlvStreamFuel fuel stream with
  | case1 => simp [elementStream_nil]
  | case2 _ tag => simp [not_elementStream_singleton]
  | case3 => simp at hfuel
  | case4 fuel tag n rest ih =>
    have hrest : (rest.drop n.toNat).length ≤ fuel := by
      simp only [List.length_cons, List.length_drop] at hfuel ⊢
      omega
    simp only [Bool.and_eq_true, decide_eq_true_eq, ih hrest, elementStream_cons_cons]

/-- The walk from a body offset reads the bytes from there on as the bounded reading of a stream does (41_dispatch
R101). -/
theorem tlvWalk_eq_tlvStreamFuel (body : List Byte) (fuel i : Nat) :
    tlvWalk body body.length fuel i = tlvStreamFuel fuel (body.drop i) := by
  induction fuel generalizing i with
  | zero =>
    match hd : body.drop i with
    | [] => simpa [tlvWalk, tlvStreamFuel] using hd
    | [_] | _ :: _ :: _ =>
      have hi : i < body.length := lt_of_not_ge fun hge => by simp [List.drop_eq_nil_of_le hge] at hd
      simp [tlvWalk, tlvStreamFuel, hi]
  | succ fuel ih =>
    match hd : body.drop i with
    | [] => simp [tlvWalk, tlvStreamFuel, List.drop_eq_nil_iff.mp hd]
    | [_] =>
      have hlen := congrArg List.length hd
      simp only [List.length_drop, List.length_cons, List.length_nil] at hlen
      rw [tlvWalk, if_pos (by omega), if_pos (by omega), tlvStreamFuel]
    | tag :: n :: rest =>
      have hlen := congrArg List.length hd
      simp only [List.length_drop, List.length_cons] at hlen
      have hn : body[i + 1]? = some n := by rw [← List.getElem?_drop, hd]; rfl
      have hrest : rest.drop n.toNat = body.drop (i + 2 + n.toNat) := by
        rw [← List.drop_drop, ← List.drop_drop, hd]; rfl
      rw [tlvWalk, if_pos (by omega), if_neg (by omega), hn, tlvStreamFuel, hrest, ← ih]
      by_cases hfit : n.toNat ≤ rest.length
      · simp [hfit, show ¬ body.length < i + 2 + n.toNat by omega]
      · simp [hfit, show body.length < i + 2 + n.toNat by omega]

/-- The walk accepts a body when its bytes after the report id are whole elements (41_dispatch R101). -/
theorem tlvOk_cons_iff (id : Byte) (stream : List Byte) : tlvOk (id :: stream) = true ↔ ElementStream stream := by
  rw [tlvOk, tlvWalk_eq_tlvStreamFuel, List.drop_one, List.tail_cons, tlvStreamFuel_iff (by simp)]

theorem tlvStream_iff (stream : List Byte) : tlvStream stream = true ↔ ElementStream stream :=
  tlvStreamFuel_iff le_rfl

/-- Settles O22: the walk starts after the report id. -/
theorem walkAcceptsExactlyElementStreams : Obligations.WalkAcceptsExactlyElementStreams := tlvOk_cons_iff

/-! ### Routing -/

/-- The report id of a parsed frame, where its body is long enough to have one (30_encoding R59). -/
def View.reportId (v : View) : Option Byte := v.body[if v.channel.toNat = 3 then 5 else 0]?

section
variable {v : View} {id : Byte} (s : State)

/-- A channel above 3 is ignored (41_dispatch R97). -/
theorem route_ignoredChannel (hc : 3 < v.channel.toNat) : route v s = (.ignoredChannel, true, s) := if_pos hc

/-- A known channel's frame without a report id is counted and no more (41_dispatch R98). -/
theorem route_noReportId (hc : v.channel.toNat ≤ 3) (hid : v.reportId = none) :
    route v s = (.noReportId, true, s) := by
  rw [View.reportId] at hid
  by_cases h3 : v.channel.toNat = 3
  · rw [if_pos h3] at hid
    simp [route, h3, hid]
  · rw [if_neg h3] at hid
    simp [route, Nat.not_lt.mpr hc, h3, hid]

/-- SensorReports: the rotation vector, and every other report (41_dispatch R99). -/
theorem route_sensorReports (hc : v.channel.toNat = 3) (hid : v.reportId = some id) :
    route v s = if id = Config.rotationVectorId then (.sensorRotationVector, true, s) else (.sensorOther, true, s) := by
  rw [View.reportId, if_pos hc] at hid
  simp [route, hc, hid]

/-- Command: an advertisement, which the walk may reject, and every other id (41_dispatch R100, R102). -/
theorem route_command (hc : v.channel.toNat = 0) (hid : v.reportId = some id) :
    route v s =
      if id = Config.advertisementId then
        if tlvOk v.body then (.advertisement, true, s) else (.none, false, s)
      else (.commandOther, true, s) := by
  rw [View.reportId, if_neg (by omega)] at hid
  simp [route, hc, hid]

/-- Executable: a reset complete sets RC (41_dispatch R103), another id nothing (R104). -/
theorem route_executable (hc : v.channel.toNat = 1) (hid : v.reportId = some id) :
    route v s =
      if id = Config.resetCompleteId then (.resetComplete, true, setResetComplete s)
      else (.executableOther, true, s) := by
  rw [View.reportId, if_neg (by omega)] at hid
  simp [route, hc, hid]

/-- HubControl: a product ID response sets PIV (41_dispatch R106), another id nothing (R105, R107). -/
theorem route_hubControl (hc : v.channel.toNat = 2) (hid : v.reportId = some id) :
    route v s =
      if id = Config.commandResponseId then (.commandResponse, true, s)
      else if id = Config.productIdResponseId then (.productIdResponse, true, setProductIdVerified s)
      else (.hubControlOther, true, s) := by
  rw [View.reportId, if_neg (by omega)] at hid
  simp [route, hc, hid]

end

/-- Settles O30: what is written is `route_state`, and each channel's routing reads nothing of the state. -/
theorem routingIsIdempotent : Obligations.RoutingIsIdempotent := by
  intro v s
  refine ⟨(route_state v s).imp_right (Or.imp And.left And.left), ?_⟩
  rcases Nat.lt_or_ge 3 v.channel.toNat with hc | hc
  · simp [route_ignoredChannel _ hc]
  cases hid : v.reportId with
  | none => simp [route_noReportId _ hc hid]
  | some id =>
    obtain hc | hc | hc | hc :
        v.channel.toNat = 0 ∨ v.channel.toNat = 1 ∨ v.channel.toNat = 2 ∨ v.channel.toNat = 3 := by omega
    · simp only [route_command _ hc hid]
      split_ifs <;> simp
    · simp only [route_executable _ hc hid]
      split_ifs <;> exact ⟨rfl, fun _ => ⟨rfl, rfl⟩⟩
    · simp only [route_hubControl _ hc hid]
      split_ifs <;> exact ⟨rfl, fun _ => ⟨rfl, rfl⟩⟩
    · simp only [route_sensorReports _ hc hid]
      split_ifs <;> simp

/-! ### A row that HANDLE_ONE is handed -/

/-- What `parse` makes of a received frame with these parts (40_codec R90). -/
def receivedView (h : RxHeader) (chan : Byte) (body : List Byte) : View :=
  { declen := h.declared.toNat, channel := chan, sequence := h.sequence, body := body }

/-- A received frame whose header fits its body parses (40_codec R91). -/
theorem parse_receivedFrame {check : Bool} {h : RxHeader} {chan : Byte} {body : List Byte}
    (hfit : h.fits check body.length = true) :
    parse check (receivedFrame h chan body) = some (receivedView h chan body) := by
  obtain ⟨hlen, -⟩ := (RxHeader.fits_iff _ _ _).mp hfit
  rw [receivedFrame, parse_cons, ← headerOf_declared _ _ h.sequence, headerOf_written,
    if_neg fun hne => hne.2 (hlen hne.1)]
  rfl

/-- HANDLE_ONE answers count 1 for a frame that parses and is routed as well formed (41_dispatch R109, R110). -/
theorem handleReceived_routed {r : Nat} {s u : State} {v : View} {rt : Route}
    (hp : parse s.lengthCheck (s.rxBytes r) = some v) (hr : route v s = (rt, true, u)) :
    handleReceived r s = handled .ok rt 1#32 u := by
  have hne : r ≠ 0 := by
    rintro rfl
    cases hp
  simp only [handleReceived, if_neg hne, hp, hr]

/-- A HANDLE_ONE that answers count 1 after a receive writes LAST_RX_LEN, LAST_COND, LAST_ROUTE, the response and
the flag that the frame sets, no more (41_dispatch R109). -/
theorem frameHandled_handled {frame : List Byte} {rt : Route} {s u : State} {v : View}
    (hlen : frame.length ≤ Config.rxCap) (hr : route v (recordRx frame.length s) = (rt, true, u)) :
    FrameHandled frame rt s (handled .ok rt 1#32 u) := by
  have hrec := recordRx_rxLen s hlen
  have hu := route_state v (recordRx frame.length s)
  simp only [hr] at hu
  rcases hu with rfl | ⟨rfl, -⟩ | ⟨rfl, -⟩ <;> simpa [FrameHandled, FrameReceived] using hrec

section
variable {s : State} {i : Instr} {h : RxHeader} {chan : Byte} {body : List Byte} {n : Nat} {rt : Route} {u : State}

/-- A received row that HANDLE_ONE is handed is answered as its frame is routed (41_dispatch R109). -/
theorem exec_frameHandled (hc : s.ctl = .handleRx) (harr : FrameArrived (encode i) s) (hi : i.isReceived = true)
    (he : encode i = receivedFrame h chan body) (hn : body.length = n) (hfit : h.fits s.lengthCheck n = true)
    (hr : route (receivedView h chan body) (recordRx (encode i).length s) = (rt, true, u)) :
    ∃ t, exec i s = .next t ∧ FrameHandled (encode i) rt s t ∧ t.rc = u.rc ∧ t.piv = u.piv := by
  subst hn
  have hlen : (encode i).length ≤ Config.rxCap := by
    rw [he, receivedFrame_length]
    exact ((RxHeader.fits_iff _ _ _).mp hfit).2
  have hp : parse s.lengthCheck (s.rxBytes (encode i).length) = some (receivedView h chan body) := by
    rw [harr.2, he, parse_receivedFrame hfit]
  refine ⟨handled .ok rt 1#32 u, ?_, frameHandled_handled hlen hr, rfl, rfl⟩
  rw [exec_arrived hi harr, step_received harr.1 (hc ▸ rfl) hlen, afterReceiveOk, recordRx_ctl, hc]
  exact congrArg _ (handleReceived_routed hp hr)

end

open Laws.EncodedSize (withId withTimestamp)

/-- Settles O23: body byte 5 decides the route. -/
theorem sensorFramesHandled : Obligations.SensorFramesHandled := by
  intro s h t id rest hc
  constructor
  · rintro ⟨hfit, harr⟩
    exact (exec_frameHandled hc harr rfl rfl (withTimestamp _ _ _) hfit
      (Eq.trans (route_sensorReports _ rfl rfl) (if_pos rfl)) :)
  · rintro ⟨hw, harr⟩
    obtain ⟨hfit, hid⟩ := Bool.and_eq_true_iff.mp hw
    exact (exec_frameHandled hc harr rfl rfl (withTimestamp _ _ _) hfit
      (Eq.trans (route_sensorReports _ rfl rfl) (if_neg (bne_iff_ne.mp hid))) :)

/-- Settles O24: a well-formed advertisement is one that the walk accepts. -/
theorem commandFramesHandled : Obligations.CommandFramesHandled := by
  intro s h id rest hc
  constructor
  · rintro ⟨hw, harr⟩
    obtain ⟨hfit, htlv⟩ := Bool.and_eq_true_iff.mp hw
    have hwalk := (tlvOk_cons_iff Config.advertisementId rest).mpr ((tlvStream_iff rest).mp htlv)
    exact (exec_frameHandled hc harr rfl rfl (withId _ _) hfit
      (Eq.trans (route_command _ rfl rfl) ((if_pos rfl).trans (if_pos hwalk))) :)
  · rintro ⟨hw, harr⟩
    obtain ⟨hfit, hid⟩ := Bool.and_eq_true_iff.mp hw
    exact (exec_frameHandled hc harr rfl rfl (withId _ _) hfit
      (Eq.trans (route_command _ rfl rfl) (if_neg (bne_iff_ne.mp hid))) :)

/-- Settles O25: the report id decides the route, and whether RC is set. -/
theorem executableFramesHandled : Obligations.ExecutableFramesHandled := by
  intro s h id rest hc
  constructor
  · rintro ⟨hfit, harr⟩
    exact (exec_frameHandled hc harr rfl rfl (withId _ _) hfit
      (Eq.trans (route_executable _ rfl rfl) (if_pos rfl)) :)
  · rintro ⟨hw, harr⟩
    obtain ⟨hfit, hid⟩ := Bool.and_eq_true_iff.mp hw
    exact (exec_frameHandled hc harr rfl rfl (withId _ _) hfit
      (Eq.trans (route_executable _ rfl rfl) (if_neg (bne_iff_ne.mp hid))) :)

/-- Settles O26: the report id decides the route, and whether PIV is set. -/
theorem hubControlFramesHandled : Obligations.HubControlFramesHandled := by
  intro s h id rest hc
  refine ⟨?response, ?productId, ?other⟩
  case response =>
    rintro ⟨hfit, harr⟩
    exact (exec_frameHandled hc harr rfl rfl (withId _ _) hfit
      (Eq.trans (route_hubControl _ rfl rfl) (if_pos rfl)) :)
  case productId =>
    rintro ⟨hfit, harr⟩
    exact (exec_frameHandled hc harr rfl rfl (withId _ _) hfit
      (Eq.trans (route_hubControl _ rfl rfl) ((if_neg (by decide)).trans (if_pos rfl))) :)
  case other =>
    rintro ⟨hw, harr⟩
    simp only [Instr.wf, Bool.and_eq_true, bne_iff_ne] at hw
    obtain ⟨⟨hfit, hne1⟩, hne8⟩ := hw
    exact (exec_frameHandled hc harr rfl rfl (withId _ _) hfit
      (Eq.trans (route_hubControl _ rfl rfl) ((if_neg hne1).trans (if_neg hne8))) :)

/-- The limits of a NO_REPORT_ID row leave its body without a report id (30_encoding R59, 41_dispatch R98). -/
theorem receivedView_reportId_none {check : Bool} {h : RxHeader} {chan : BitVec 2} {rest : List Byte}
    (hw : (Instr.noReportId h chan rest).wf check = true) :
    (receivedView h (chan.setWidth 8) rest).reportId = none := by
  have hchan : ∀ c : BitVec 2, (c.setWidth 8).toNat = 3 ↔ c = 3#2 := by decide
  obtain ⟨-, hbody⟩ := Bool.and_eq_true_iff.mp hw
  simp only [View.reportId, receivedView, hchan, List.getElem?_eq_none_iff]
  split_ifs at hbody ⊢
  · exact of_decide_eq_true hbody
  · simpa using hbody

/-- Settles O27: a channel above 3 and a missing report id are each routed without a look at the body. -/
theorem ignoredAndShortFramesHandled : Obligations.IgnoredAndShortFramesHandled := by
  intro s h rest hc
  constructor
  · rintro chan ⟨hw, harr⟩
    obtain ⟨hfit, hchan⟩ := Bool.and_eq_true_iff.mp hw
    exact (exec_frameHandled hc harr rfl rfl rfl hfit (route_ignoredChannel _ (of_decide_eq_true hchan)) :)
  · rintro chan ⟨hw, harr⟩
    obtain ⟨hfit, -⟩ := Bool.and_eq_true_iff.mp hw
    have hchan : ∀ c : BitVec 2, (c.setWidth 8).toNat ≤ 3 := by decide
    exact (exec_frameHandled hc harr rfl rfl rfl hfit
      (route_noReportId _ (hchan chan) (receivedView_reportId_none hw)) :)

/-! ### HANDLE_ONE without a frame -/

/-- The whole state after a HANDLE_ONE whose frame set no flag (41_dispatch R109). -/
theorem handled_recordRx (cond : Cond) (rt : Route) (count : Word) (r : Nat) (s : State) :
    handled cond rt count (recordRx r s) = { s with
      pending := none
      lastRxLen := BitVec.ofNat 11 r
      ctl := .idle
      lastCond := cond
      lastRoute := rt
      response := some { cond := .ok, value := count, route := rt, info := .absent } } := by
  cases s
  rfl

/-- Settles O29: a receive of no bytes and a failed one each end the command, with count 0. -/
theorem handleOneWithoutAFrame : Obligations.HandleOneWithoutAFrame := by
  intro s hc
  constructor
  · intro hp
    rw [step_received hp (hc ▸ rfl) (Nat.zero_le _), afterReceiveOk, recordRx_ctl, hc]
    exact congrArg _ (handled_recordRx .ok .none 0#32 0 s)
  · intro e hp
    rw [step_receive_err hp (hc ▸ rfl), afterReceiveErr, recordRx_ctl, hc]
    exact congrArg _ (handled_recordRx .transportError .none 0#32 0 s)

end Sys2Proof.Machine


/-!
PROOF. Initialisation, step by step (spec 42_init, 44_host_ops R131 to R133): how the commands that wait start, the request
of VERIFY_PRODUCT_ID and the verdict on its answer, and what each phase of INIT makes of the answers of its agent.
-/

namespace Sys2Proof.Machine

/-! ### Commands that wait -/

/-- A command that has no operands runs its own rule once it is accepted (44_host_ops R127). -/
theorem acceptPlain_idle {s : State} (hc : s.ctl = .idle) (op : Byte) (rule : State → State) :
    acceptPlain op rule s = .next (rule (accepted op 0#8 0#16 0#32 [] s)) := accept_idle _ _ _ _ _ _ _ hc

theorem exec_init {s : State} (hc : s.ctl = .idle) :
    exec .init s = .next ((accepted 0x01#8 0#8 0#16 0#32 [] s).setCtl .initSetup) :=
  acceptPlain_idle hc 0x01#8 (·.setCtl .initSetup)

theorem exec_eatAll {s : State} (hc : s.ctl = .idle) :
    exec .eatAll s = .next ((drainStart (accepted 0x0A#8 0#8 0#16 0#32 [] s)).setCtl .eatAllRx) :=
  acceptPlain_idle hc 0x0A#8 fun t => (drainStart t).setCtl .eatAllRx

/-- Settles O34: acceptance, and then each command's own rule. -/
theorem waitingCommandsStart : Obligations.WaitingCommandsStart := fun _ hc =>
  have start (op : Byte) (p : Phase) := acceptPlain_idle hc op (·.setCtl p)
  ⟨exec_init hc, start 0x07#8 .recvRx, start 0x08#8 .handleRx, start 0x09#8 .eatRx, exec_eatAll hc⟩

/-! ### An issued frame -/

theorem builtFrame_eq (c : Channel) (q : Byte) (body : List Byte) :
    builtFrame c q body = builtHeader (body.length + Config.hdr) c q ++ body := by
  rw [builtFrame, Nat.add_comm]

/-- What TX holds at each offset after `build`, as the frame and what TX held beyond it (40_codec R85). -/
theorem builtState_txByte_frame (c : Channel) (body : List Byte) (s : State) (i : Nat) :
    (builtState c body s).txByte i =
      if i < body.length + Config.hdr then (builtFrame c (s.seq.get c + 1#8) body).getD i 0#8 else s.txByte i := by
  rw [builtState_txByte, builtFrame_eq]
  by_cases hheader : i < Config.hdr
  · rw [if_pos hheader, if_pos (by omega), List.getD_append _ _ _ _ (by rwa [builtHeader_length])]
  · rw [if_neg hheader, List.getD_append_right _ _ _ _ (by rw [builtHeader_length]; omega), builtHeader_length]

/-- A built frame whose phase is held on a send is issued (40_codec R88). -/
theorem sendIssued_builtState {c : Channel} {body : List Byte} {p : Phase} {s : State} (hs : p.heldOn = .send)
    (hp : s.pending = none) :
    SendIssued c (builtFrame c (s.seq.get c + 1#8) body) p s ((builtState c body s).setCtl p) := by
  have hlen : (builtFrame c (s.seq.get c + 1#8) body).length = body.length + Config.hdr := by
    rw [builtFrame_length, Nat.add_comm]
  refine ⟨rfl, ?request, hlen.symm, ?frame, ?beyond, SeqCounters.get_set_same _ _ _,
    fun d hd => SeqCounters.get_set_ne _ _ hd, rfl, rfl, rfl, rfl, rfl, rfl, rfl, rfl, rfl, rfl, rfl⟩
  case request => simp [State.request, hp, hs, builtState_txBytes]
  case frame =>
    intro i hi
    rw [State.setCtl_txByte, builtState_txByte_frame, if_pos (by rwa [← hlen])]
  case beyond =>
    intro i hi
    rw [State.setCtl_txByte, builtState_txByte_frame, if_neg (by omega)]

/-- The product-ID request is issued (42_init R112, 30_encoding R65). -/
theorem verifyStart_sendIssued {p : Phase} {s : State} (hs : p.heldOn = .send) (hp : s.pending = none) :
    SendIssued .hubControl [0x06#8, 0x00#8, 0x02#8, s.seq.hubControl + 1#8, 0xF9#8, 0x00#8] p s (verifyStart p s) := by
  rw [verifyStart_eq]
  exact sendIssued_builtState hs hp

/-- INIT's soft reset is issued (42_init R113 step 2, 30_encoding R64). -/
theorem afterSetup_sendIssued {s : State} (hp : s.pending = none) :
    SendIssued .executable [0x05#8, 0x00#8, 0x01#8, s.seq.executable + 1#8, 0x01#8] .initResetTx s (afterSetup s) := by
  rw [afterSetup_eq]
  exact sendIssued_builtState rfl hp

/-- Settles O36: acceptance, and then the request is issued. -/
theorem verifyProductIdSendsItsRequest : Obligations.VerifyProductIdSendsItsRequest := fun _ hc =>
  ⟨_, acceptPlain_idle hc _ _, verifyStart_sendIssued rfl rfl⟩

/-! ### Verification -/

section
variable {s : State} {r : Nat} (hc : s.ctl = .verifyRx ∨ s.ctl = .initVerifyRx) (hp : s.pending = some (.received r))
  (hr : r ≤ 1024)
include hc hp hr

/-- Both phases of verification read the frame alike (42_init R112). -/
theorem step_verifyReceived : step s = .next (verifyReceived r (recordRx r s)) := by
  rcases hc with hc | hc <;> rw [step_received hp (hc ▸ rfl) hr, afterReceiveOk, recordRx_ctl, hc]

/-- A verification that finds 0xF8 after the header succeeds (42_init R112). -/
theorem step_identified (h : 4 < r ∧ s.rxByte 4 = 0xF8#8) :
    step s = .next { s with
      pending := none
      lastRxLen := BitVec.ofNat 11 r
      ctl := .idle
      piv := true
      lastCond := .ok
      response := some { cond := .ok, value := 0#32, route := .none, info := .absent } } := by
  obtain ⟨hlen, hid⟩ := h
  have hv : verifyReceived r (recordRx r s) = complete 0#32 (setProductIdVerified (recordRx r s)) :=
    (if_pos hlen).trans (if_pos hid)
  rw [step_verifyReceived hc hp hr, hv]
  cases s
  rfl

/-- A verification that does not find 0xF8 after the header raises the byte that it found, or 0x00 (60_exceptions R139). -/
theorem step_unidentified (h : ¬ (4 < r ∧ s.rxByte 4 = 0xF8#8)) :
    step s = .next { s with
      pending := none
      lastRxLen := BitVec.ofNat 11 r
      ctl := .idle
      lastCond := .invalidChipIdentity
      response := some { cond := .invalidChipIdentity, value := 0#32, route := .none,
                         info := .identity (if 4 < r then s.rxByte 4 else 0x00#8) } } := by
  have hv : verifyReceived r (recordRx r s)
      = raise .invalidChipIdentity (.identity (if 4 < r then s.rxByte 4 else 0x00#8)) (recordRx r s) := by
    by_cases hlen : 4 < r
    · rw [if_pos hlen]
      exact (if_pos hlen).trans (if_neg fun hid => h ⟨hlen, hid⟩)
    · rw [if_neg hlen]
      exact if_neg hlen
  rw [step_verifyReceived hc hp hr, hv]
  cases s
  rfl

end

/-- A byte of an arrived frame, where it has one at that offset. -/
theorem FrameArrived.getElem? {frame : List Byte} {s : State} (h : FrameArrived frame s) (i : Nat) :
    frame[i]? = if i < frame.length then some (s.rxByte i) else none := by
  split
  · rename_i hi
    rw [h.rxByte hi, List.getD_eq_getElem _ _ hi, List.getElem?_eq_getElem hi]
  · exact List.getElem?_eq_none (by omega)

/-- An arrived frame has 0xF8 after its header when a verification finds it there. -/
theorem FrameArrived.identified_iff {frame : List Byte} {s : State} (h : FrameArrived frame s) :
    frame[4]? = some 0xF8#8 ↔ 4 < frame.length ∧ s.rxByte 4 = 0xF8#8 := by
  rw [h.getElem? 4]
  split_ifs with hlen <;> simp [hlen]

/-- The identity byte of an arrived frame, 0x00 where it has none (60_exceptions R139). -/
theorem FrameArrived.identity {frame : List Byte} {s : State} (h : FrameArrived frame s) :
    frame[4]?.getD 0x00#8 = if 4 < frame.length then s.rxByte 4 else 0x00#8 := by
  rw [h.getElem? 4]
  split_ifs <;> rfl

/-- Settles O32: verification looks at byte 4 of the frame that arrived. -/
theorem verificationReadsOneByte : Obligations.VerificationReadsOneByte := by
  intro s frame hc harr hlen
  refine ⟨fun h => step_identified hc harr.1 hlen (harr.identified_iff.mp h), fun h => ?_⟩
  rw [step_unidentified hc harr.1 hlen (mt harr.identified_iff.mpr h), harr.identity]

/-! ### The phases of INIT -/

/-- Settles O45: each phase by the operation that takes its agent's answer. -/
theorem initPhaseTable : Obligations.InitPhaseTable := by
  intro s r e hr
  have sendOk {p : Phase} (hc : s.ctl = p) (hheld : p.heldOn = .send) (hp : s.pending = some .answeredOk) :
      step s = .next (afterSend s.taken) := step_send_ok hp (hc ▸ hheld)
  have waited {p : Phase} {n : Nat} (hc : s.ctl = p) (hheld : p.heldOn = .wait n) (hp : s.pending = some .waited) :
      step s = .next (afterWait s.taken) := step_waited hp (hc ▸ hheld)
  have receiveOk {p : Phase} {r : Nat} (hr : r ≤ 1024) (hc : s.ctl = p) (hheld : p.heldOn = .receive)
      (hp : s.pending = some (.received r)) : step s = .next (afterReceiveOk r (recordRx r s)) :=
    step_received hp (hc ▸ hheld) hr
  have receiveErr {p : Phase} (hc : s.ctl = p) (hheld : p.heldOn = .receive) (hp : s.pending = some (.answeredErr e)) :
      step s = .next (afterReceiveErr e (recordRx 0 s)) := step_receive_err hp (hc ▸ hheld)
  refine ⟨?setup, ?failed, ?resetTx, ?waitReset, ?discard, ?discardErr, ?waitSettle, ?drain, ?drainEnds, ?drainWait,
    ?verifyTx, ?identified, ?unidentified, ?verifyErr⟩
  case setup => exact fun hc hp => ⟨_, step_setup_ok hp (hc ▸ rfl), afterSetup_sendIssued rfl⟩
  case failed =>
    rintro (hc | hc | hc) hp
    · exact step_setup_err hp (hc ▸ rfl)
    · exact step_send_err hp (hc ▸ rfl)
    · exact step_send_err hp (hc ▸ rfl)
  case resetTx | verifyTx =>
    intro hc hp
    rw [sendOk hc rfl hp, afterSend, State.taken_ctl, hc]
    rfl
  case waitReset | waitSettle | drainWait =>
    intro hc hp
    rw [waited hc rfl hp, afterWait, State.taken_ctl, hc]
    rfl
  case discard =>
    intro hc hp
    rw [receiveOk hr hc rfl hp, afterReceiveOk, recordRx_ctl, hc]
    rfl
  case discardErr | verifyErr =>
    intro hc hp
    rw [receiveErr hc rfl hp, afterReceiveErr, recordRx_ctl, hc]
    rfl
  case drain =>
    intro hc hp hne
    rw [receiveOk hr hc rfl hp, afterReceiveOk, recordRx_ctl, hc]
    exact congrArg _ (if_neg hne)
  case drainEnds =>
    rintro hc (hp | hp)
    · rw [receiveOk (Nat.zero_le _) hc rfl hp, afterReceiveOk, recordRx_ctl, hc]
      exact ⟨_, rfl, verifyStart_sendIssued rfl rfl⟩
    · rw [receiveErr hc rfl hp, afterReceiveErr, recordRx_ctl, hc]
      exact ⟨_, rfl, verifyStart_sendIssued rfl rfl⟩
  case identified => exact fun hc hp hlen hid => step_identified (.inr hc) hp hr ⟨hlen, hid⟩
  case unidentified => exact fun hc hp hne => step_unidentified (.inr hc) hp hr hne

end Sys2Proof.Machine

/-!
PROOF. Whole commands (spec 42_init R111, R113, R117, 44_host_ops R133): an agent's answer and the core's step after it as
one round of two steps, the rounds of a drain, and EAT_ALL and INIT from their acceptance to their response.
-/

namespace Sys2Proof.Machine

/-! ### Runs of several steps -/

/-- A run goes on from where an earlier one ended. -/
theorem steps_trans {m n : Nat} {s t : State} {o : Out} (h1 : steps m s = .next t) (h2 : steps n t = o) :
    steps (m + n) s = o := by
  induction m generalizing s with
  | zero =>
    cases h1
    rwa [Nat.zero_add]
  | succ m ih =>
    rw [Nat.succ_add, steps]
    rw [steps] at h1
    cases hs : step s with
    | next u =>
      rw [hs] at h1
      exact ih h1
    | fault | refused => rw [hs] at h1; cases h1

/-- What holds at the start of a run and is kept by every step holds at its end. -/
theorem steps_induction {P : State → Prop} (hstep : ∀ s t, P s → step s = .next t → P t) {n : Nat} {s t : State}
    (hs : P s) (h : steps n s = .next t) : P t := by
  induction n generalizing s with
  | zero => cases h; exact hs
  | succ n ih =>
    rw [steps] at h
    cases hu : step s with
    | next u =>
      rw [hu] at h
      exact ih (hstep s u hs hu) h
    | fault | refused => rw [hu] at h; cases h

/-! ### Rounds: a run goes on by an agent's step and the core's after it -/

/-- `s` after the Transport's next answer to a `receive` is taken from its list. -/
def State.answering (s : State) (rest : List ReceiveAnswer) : State :=
  s.setTransport { s.transport with receives := rest }

/-- A core that had been handed nothing is as it was once it has taken an event. -/
theorem State.taken_setPending {s : State} (h : s.pending = none) (ev : Option Event) :
    (s.setPending ev).taken = s := by
  cases s
  cases h
  rfl

section
variable {m : Nat} {start s : State} (hs : steps m start = .next s) (hp : s.pending = none)
include hs hp

/-- The Host presents a command and the core runs it up to its first request or its response. -/
theorem steps_command {bytes : List Byte} {rest : List HostEvent} {i : Instr} {t : State} (hc : s.ctl = .idle)
    (hh : s.host = .present bytes :: rest) (hd : decodeCommand bytes = .ok i)
    (ht : exec i ((s.setHost rest).setPending (some (.presented bytes))) = .next t) :
    steps (m + 2) start = .next t := by
  have hbytes : isTransfer bytes = true := (isTransfer_iff bytes).mpr (hd ▸ nofun)
  refine steps_trans hs (steps_two (step_present hp hc hh hbytes) ?_)
  rw [step_presented rfl, hd]
  exact ht

theorem steps_setup_ok {rest : List StatusAnswer} (hc : s.ctl.heldOn = .setup) (hl : s.transport.setups = .ok :: rest) :
    steps (m + 2) start = .next (afterSetup (s.setTransport { s.transport with setups := rest })) := by
  have hround := steps_two (step_setup_listed hp hc hl) (step_setup_ok rfl hc)
  exact steps_trans hs (by simpa [handStatus, State.taken_setPending, hp] using hround)

theorem steps_send_ok {rest : List StatusAnswer} (hc : s.ctl.heldOn = .send) (hl : s.transport.sends = .ok :: rest) :
    steps (m + 2) start = .next (afterSend (s.setTransport { s.transport with sends := rest })) := by
  have hround := steps_two (step_send_listed hp hc hl) (step_send_ok rfl hc)
  exact steps_trans hs (by simpa [handStatus, State.taken_setPending, hp] using hround)

theorem steps_receive_ok {frame : List Byte} {rest : List ReceiveAnswer} (hc : s.ctl.heldOn = .receive)
    (hl : s.transport.receives = .ok frame :: rest) (hfit : frame.length ≤ 1024) :
    steps (m + 2) start
      = .next (afterReceiveOk frame.length (recordRx frame.length (fillRx frame (s.answering rest)))) :=
  steps_trans hs (steps_two ((step_receive_listed hp hc hl).trans (handReceive_ok _ hfit)) (step_received rfl hc hfit))

theorem steps_receive_err {e : TErr} {rest : List ReceiveAnswer} (hc : s.ctl.heldOn = .receive)
    (hl : s.transport.receives = .err e :: rest) :
    steps (m + 2) start = .next (afterReceiveErr e (recordRx 0 (spoilRx (s.answering rest)))) :=
  steps_trans hs (steps_two (step_receive_listed hp hc hl) (step_receive_err rfl hc))

theorem steps_wait {n : Nat} (hc : s.ctl.heldOn = .wait n) : steps (m + 2) start = .next (afterWait s) := by
  have hround := steps_two (step_wait hp hc) (step_waited rfl hc)
  exact steps_trans hs (by simpa [delayStep, State.taken_setPending, hp] using hround)

end

/-- Settles O12: the Delay provider completes the wait, and each phase goes on as `afterWait` says. -/
theorem waitsComplete : Obligations.WaitsComplete := by
  intro s hp
  have goes {p : Phase} {n : Nat} (hc : s.ctl = p) (hheld : p.heldOn = .wait n) :
      s.request = some (.wait n) ∧ steps 2 s = .next (afterWait s) := by
    subst hc
    exact ⟨by simp [State.request, hp, hheld], steps_wait (m := 0) rfl hp hheld⟩
  refine ⟨?waitReset, ?waitSettle, ?drainWait, ?eatAllWait⟩
  all_goals
    intro hc
    obtain ⟨hreq, hsteps⟩ := goes hc rfl
    refine ⟨hreq, ?_⟩
    rw [hsteps, afterWait, hc]
    rfl

/-! ### A drain -/

/-- The two drains (42_init R111): the phase that receives and the one that waits after each frame. -/
inductive DrainPhases : Phase → Phase → Prop
  | init : DrainPhases .initDrainRx .initDrainWait
  | eatAll : DrainPhases .eatAllRx .eatAllWait

/-- `s` after `n` frames of its drain: the count has risen, and RX and LAST_RX_LEN hold what the latest receive left. -/
def State.drained (s : State) (rx : Buffer) (len : BitVec 11) (n : Nat) (rest : List ReceiveAnswer) : State :=
  { s with
    rx := rx
    lastRxLen := len
    ctx := { s.ctx with n := s.ctx.n + BitVec.ofNat 32 n }
    transport := { s.transport with receives := rest } }

section
variable {m : Nat} {start s : State} {p w : Phase} (hs : steps m start = .next s) (hd : DrainPhases p w)
  (hp : s.pending = none)
include hs hd hp

/-- A frame is counted, and a wait follows it (42_init R111). -/
theorem steps_drainReceive {frame : List Byte} {rest : List ReceiveAnswer} (hc : s.ctl = p)
    (hl : s.transport.receives = .ok frame :: rest) (hne : frame ≠ []) (hfit : frame.length ≤ 1024) :
    steps (m + 2) start
      = .next ((drainCount (recordRx frame.length (fillRx frame (s.answering rest)))).setCtl w) := by
  have hlen : frame.length ≠ 0 := mt List.length_eq_zero_iff.mp hne
  have hctl : (recordRx frame.length (fillRx frame (s.answering rest))).ctl = p := hc
  rw [steps_receive_ok hs hp (by cases hd <;> rw [hc] <;> rfl) hl hfit]
  cases hd <;> rw [afterReceiveOk, hctl] <;> exact congrArg _ (if_neg hlen)

/-- After the wait the drain receives again (42_init R111). -/
theorem steps_drainWait (hc : s.ctl = w) : steps (m + 2) start = .next (s.setCtl p) := by
  rw [steps_wait (n := Config.dPoll) hs hp (by cases hd <;> rw [hc] <;> rfl)]
  cases hd <;> rw [afterWait, hc]

/-- The rounds of a drain, by induction on its frames: four steps each (42_init R111). -/
theorem steps_drain (frames : List (List Byte)) (rest : List ReceiveAnswer) (hc : s.ctl = p)
    (hl : s.transport.receives = frames.map .ok ++ rest) (hf : ∀ f ∈ frames, f ≠ [] ∧ f.length ≤ 1024) :
    ∃ rx len, steps (m + 4 * frames.length) start = .next (s.drained rx len frames.length rest) := by
  induction frames generalizing m s with
  | nil =>
    refine ⟨s.rx, s.lastRxLen, hs.trans (congrArg _ ?_)⟩
    cases s
    cases hl
    simp [State.drained]
  | cons f fs ih =>
    obtain ⟨hne, hfit⟩ := hf f (.head _)
    have hround := steps_drainWait (steps_drainReceive hs hd hp hc hl hne hfit) hd rfl rfl
    obtain ⟨rx, len, hrun⟩ := ih hround rfl rfl rfl fun g hg => hf g (.tail _ hg)
    have hn : s.ctx.n + 1#32 + BitVec.ofNat 32 fs.length = s.ctx.n + BitVec.ofNat 32 (fs.length + 1) := by
      rw [BitVec.add_assoc, BitVec.ofNat_add, BitVec.add_comm 1#32]
    refine ⟨rx, len, ?_⟩
    rw [List.length_cons, show m + 4 * (fs.length + 1) = m + 2 + 2 + 4 * fs.length by omega, hrun]
    cases s
    cases hc
    cases hp
    simp [State.drained, State.answering, hn]

end

/-- A drain ends with a receive of no bytes or with a failed one, and each leaves LAST_RX_LEN at 0 (42_init R111). -/
theorem steps_drainEnds {m : Nat} {start s : State} {ending : ReceiveAnswer} {rest : List ReceiveAnswer}
    (hs : steps m start = .next s) (hp : s.pending = none) (hc : s.ctl.heldOn = .receive)
    (hl : s.transport.receives = ending :: rest) (he : ending = .ok [] ∨ ∃ e, ending = .err e) :
    ∃ rx, (ending = .ok []
        ∧ steps (m + 2) start = .next (afterReceiveOk 0 (recordRx 0 ((s.answering rest).setRx rx))))
      ∨ ∃ e, ending = .err e
        ∧ steps (m + 2) start = .next (afterReceiveErr e (recordRx 0 ((s.answering rest).setRx rx))) := by
  rcases he with rfl | ⟨e, rfl⟩
  · exact ⟨_, .inl ⟨rfl, steps_receive_ok hs hp hc hl (Nat.zero_le _)⟩⟩
  · exact ⟨_, .inr ⟨e, rfl, steps_receive_err hs hp hc hl⟩⟩

/-! ### EAT_ALL -/

/-- The end of EAT_ALL's drain answers the count, with the condition that ended it (44_host_ops R133). -/
theorem steps_eatAllEnds {m : Nat} {start s : State} {ending : ReceiveAnswer} {rest : List ReceiveAnswer}
    (hs : steps m start = .next s) (hp : s.pending = none) (hc : s.ctl = .eatAllRx)
    (hl : s.transport.receives = ending :: rest) (he : ending = .ok [] ∨ ∃ e, ending = .err e) :
    ∃ rx cond, steps (m + 2) start = .next (eatAllDone cond (recordRx 0 ((s.answering rest).setRx rx)))
      ∧ (ending = .ok [] → cond = .ok) ∧ (ending ≠ .ok [] → cond = .transportError) := by
  have hctl (rx : Buffer) : (recordRx 0 ((s.answering rest).setRx rx)).ctl = .eatAllRx := hc
  obtain ⟨rx, ⟨rfl, hrun⟩ | ⟨e, rfl, hrun⟩⟩ := steps_drainEnds hs hp (hc ▸ rfl) hl he
  · refine ⟨rx, .ok, ?_, fun _ => rfl, fun hne => absurd rfl hne⟩
    rw [hrun, afterReceiveOk, hctl]
    rfl
  · refine ⟨rx, .transportError, ?_, nofun, fun _ => rfl⟩
    rw [hrun, afterReceiveErr, hctl]

/-- Settles O48: acceptance, the rounds of the drain, and its end. -/
theorem eatAllDrains : Obligations.EatAllDrains := by
  intro s hostRest rr ending frames hc hp hh hf he hl
  have hstart := steps_command (m := 0) (i := .eatAll) rfl hp hc hh rfl (exec_eatAll hc)
  obtain ⟨rx, len, hdrain⟩ := steps_drain hstart .eatAll rfl frames (ending :: rr) rfl hl hf
  obtain ⟨rx', cond, hend, hok, herr⟩ := steps_eatAllEnds hdrain rfl rfl rfl he
  rw [show 0 + 2 + 4 * frames.length + 2 = 4 + 4 * frames.length by omega] at hend
  refine ⟨_, hend, rfl, rfl, ?_⟩
  simpa [State.drained, State.answering] using ⟨hok, herr⟩

/-! ### INIT -/

/-- From `s` to `t` INIT has come to its drain (42_init R113 steps 1 to 5), with the answers of `transport` to come: the
counter of the soft reset has risen, and no flag and no route is touched. -/
def InitBegun (s : State) (hostRest : List HostEvent) (transport : Transport) (t : State) : Prop :=
  t.ctl = .initDrainRx ∧ t.pending = none ∧ t.rc = s.rc ∧ t.piv = s.piv
    ∧ t.seq = s.seq.set .executable (s.seq.get .executable + 1#8) ∧ t.lastRoute = s.lastRoute ∧ t.ctx.n = 0#32
    ∧ t.host = hostRest ∧ t.transport = transport

/-- From `s` to `t` INIT has ended on the frame `last` (42_init R112, R118, R119), with the counters `q` and the answers of
`transport` to come. -/
def InitEnded (s : State) (q : SeqCounters) (last : List Byte) (transport : Transport) (t : State) : Prop :=
  t.ctl = .idle ∧ t.pending = none ∧ t.rc = s.rc ∧ t.seq = q ∧ t.lastRoute = s.lastRoute
    ∧ t.lastRxLen.toNat = last.length ∧ t.ctx = s.ctx ∧ t.host = s.host ∧ t.transport = transport
    ∧ (last[4]? = some 0xF8#8 → t.piv = true ∧ t.lastCond = .ok
        ∧ t.response = some { cond := .ok, value := 0#32, route := .none, info := .absent })
    ∧ (last[4]? ≠ some 0xF8#8 → t.piv = s.piv ∧ t.lastCond = .invalidChipIdentity
        ∧ t.response = some { cond := .invalidChipIdentity, value := 0#32, route := .none,
                              info := .identity (last[4]?.getD 0x00#8) })

section
variable {m : Nat} {start s : State} (hs : steps m start = .next s) (hp : s.pending = none)
include hs hp

/-- The soft reset is sent, and INIT waits (42_init R113 steps 2, 3). -/
theorem steps_initResetTx {rest : List StatusAnswer} (hc : s.ctl = .initResetTx)
    (hl : s.transport.sends = .ok :: rest) :
    steps (m + 2) start = .next ((s.setTransport { s.transport with sends := rest }).setCtl .initWaitReset) := by
  rw [steps_send_ok hs hp (hc ▸ rfl) hl, afterSend, State.setTransport_ctl, hc]

theorem steps_initWaitReset (hc : s.ctl = .initWaitReset) : steps (m + 2) start = .next (s.setCtl .initDiscardRx) := by
  rw [steps_wait (n := Config.dReset) hs hp (hc ▸ rfl), afterWait, hc]

/-- Whatever the discarded receive is answered, INIT waits again (42_init R116). -/
theorem steps_initDiscardRx {discarded : ReceiveAnswer} {rest : List ReceiveAnswer} (hc : s.ctl = .initDiscardRx)
    (hl : s.transport.receives = discarded :: rest)
    (hd : (∃ f, discarded = .ok f ∧ f.length ≤ 1024) ∨ ∃ e, discarded = .err e) :
    ∃ rx r, steps (m + 2) start = .next ((recordRx r ((s.answering rest).setRx rx)).setCtl .initWaitSettle) := by
  have hctl (r : Nat) (rx : Buffer) : (recordRx r ((s.answering rest).setRx rx)).ctl = .initDiscardRx := hc
  rcases hd with ⟨f, rfl, hfit⟩ | ⟨e, rfl⟩
  · have hrun := steps_receive_ok hs hp (hc ▸ rfl) hl hfit
    rw [afterReceiveOk, fillRx, hctl] at hrun
    exact ⟨_, _, hrun⟩
  · have hrun := steps_receive_err hs hp (hc ▸ rfl) hl
    rw [afterReceiveErr, spoilRx, hctl] at hrun
    exact ⟨_, _, hrun⟩

theorem steps_initWaitSettle (hc : s.ctl = .initWaitSettle) :
    steps (m + 2) start = .next ((drainStart s).setCtl .initDrainRx) := by
  rw [steps_wait (n := Config.dSettle) hs hp (hc ▸ rfl), afterWait, hc]

/-- However the drain ends, the product-ID request is issued (42_init R111, R112). -/
theorem steps_initDrainEnds {ending : ReceiveAnswer} {rest : List ReceiveAnswer} (hc : s.ctl = .initDrainRx)
    (hl : s.transport.receives = ending :: rest) (he : ending = .ok [] ∨ ∃ e, ending = .err e) :
    ∃ rx, steps (m + 2) start
      = .next (verifyStart .initVerifyTx (recordRx 0 ((s.answering rest).setRx rx))) := by
  have hctl (rx : Buffer) : (recordRx 0 ((s.answering rest).setRx rx)).ctl = .initDrainRx := hc
  obtain ⟨rx, ⟨-, hrun⟩ | ⟨e, -, hrun⟩⟩ := steps_drainEnds hs hp (hc ▸ rfl) hl he
  · exact ⟨rx, by rw [hrun, afterReceiveOk, hctl]; rfl⟩
  · exact ⟨rx, by rw [hrun, afterReceiveErr, hctl]⟩

/-- The request is sent, and INIT receives the frame that it verifies (42_init R112). -/
theorem steps_initVerifyTx {rest : List StatusAnswer} (hc : s.ctl = .initVerifyTx)
    (hl : s.transport.sends = .ok :: rest) :
    steps (m + 2) start = .next ((s.setTransport { s.transport with sends := rest }).setCtl .initVerifyRx) := by
  rw [steps_send_ok hs hp (hc ▸ rfl) hl, afterSend, State.setTransport_ctl, hc]

/-- The last frame of INIT ends it by the byte after its header (42_init R112). -/
theorem steps_initVerifyRx {last : List Byte} {rest : List ReceiveAnswer} (hc : s.ctl = .initVerifyRx)
    (hl : s.transport.receives = .ok last :: rest) (hfit : last.length ≤ 1024) :
    ∃ t, steps (m + 2) start = .next t ∧ InitEnded s s.seq last { s.transport with receives := rest } t := by
  obtain ⟨u, hstep, harr, -, hu⟩ := step_receive_ok hp (hc ▸ rfl) hl hfit
  obtain ⟨hok, hbad⟩ := verificationReadsOneByte u last (.inr (hu ▸ hc)) harr hfit
  have hlen := recordRx_rxLen u hfit
  by_cases hid : last[4]? = some 0xF8#8
  · refine ⟨_, steps_trans hs (steps_two hstep (hok hid)), ?_⟩
    rw [hu]
    simpa [InitEnded, hid] using hlen
  · refine ⟨_, steps_trans hs (steps_two hstep (hbad hid)), ?_⟩
    rw [hu]
    simpa [InitEnded, hid] using hlen

/-- From the end of its drain INIT sends one request and ends on the frame that it then receives (42_init R113 steps 6, 7). -/
theorem steps_initEnds {ending : ReceiveAnswer} {last : List Byte} {rest : List ReceiveAnswer} {se : List StatusAnswer}
    (hc : s.ctl = .initDrainRx) (hl : s.transport.receives = ending :: .ok last :: rest)
    (hsends : s.transport.sends = .ok :: se) (he : ending = .ok [] ∨ ∃ e, ending = .err e)
    (hfit : last.length ≤ 1024) :
    ∃ t, steps (m + 6) start = .next t
      ∧ InitEnded s (s.seq.set .hubControl (s.seq.get .hubControl + 1#8)) last
          { s.transport with sends := se, receives := rest } t := by
  obtain ⟨rx, hends⟩ := steps_initDrainEnds hs hp hc hl he
  rw [verifyStart_eq] at hends
  obtain ⟨t, hrun, hend⟩ := steps_initVerifyRx (steps_initVerifyTx hends rfl rfl hsends) rfl rfl rfl hfit
  exact ⟨t, hrun, by simpa [InitEnded, State.answering] using hend⟩

/-- From its acceptance INIT sends one soft reset, throws one receive away and begins its drain (42_init R113 steps 1 to
5). -/
theorem steps_initBegins {hostRest : List HostEvent} {su se : List StatusAnswer} {discarded : ReceiveAnswer}
    {rest : List ReceiveAnswer} (hc : s.ctl = .idle)
    (hh : s.host = .present [0x01#8, 0x00#8, 0x00#8, 0x00#8] :: hostRest) (hsetups : s.transport.setups = .ok :: su)
    (hsends : s.transport.sends = .ok :: se) (hl : s.transport.receives = discarded :: rest)
    (hd : (∃ f, discarded = .ok f ∧ f.length ≤ 1024) ∨ ∃ e, discarded = .err e) :
    ∃ t, steps (m + 12) start = .next t ∧ InitBegun s hostRest
      { s.transport with setups := su, sends := se, receives := rest } t := by
  have hsetup := steps_setup_ok (steps_command (i := .init) hs hp hc hh rfl (exec_init hc)) rfl rfl hsetups
  rw [afterSetup_eq] at hsetup
  have hreset := steps_initWaitReset (steps_initResetTx hsetup rfl rfl hsends) rfl rfl
  obtain ⟨rx, r, hdiscard⟩ := steps_initDiscardRx hreset rfl rfl hl hd
  exact ⟨_, steps_initWaitSettle hdiscard rfl rfl, by simp [InitBegun, State.answering]⟩

end

/-- INIT raises the counters of its two frames (40_codec R82). -/
theorem SeqCounters.get_initSet (q : SeqCounters) {x h : Byte} {c : Channel} (hx : c ≠ .executable)
    (hh : c ≠ .hubControl) : ((q.set .executable x).set .hubControl h).get c = q.get c := by
  rw [SeqCounters.get_set_ne _ _ hh, SeqCounters.get_set_ne _ _ hx]

/-- Settles O46: INIT begins, drains and ends. -/
theorem initHandshake : Obligations.InitHandshake := by
  intro s hostRest su se rr k discarded ending frames last hc hp hh hd hf he hlast ht
  obtain ⟨hsetups, hsends, hreceives⟩ : s.transport.setups = .ok :: su ∧ s.transport.sends = .ok :: .ok :: se
      ∧ s.transport.receives = discarded :: (frames.map .ok ++ ending :: .ok last :: rr) := by simp [ht]
  obtain ⟨b, hbegin, hbctl, hbpending, hbrc, hbpiv, hbseq, hbroute, hbn, hbhost, hbtransport⟩ :=
    steps_initBegins (m := 0) rfl hp hc hh hsetups hsends hreceives hd
  obtain ⟨rx, len, hdrain⟩ := steps_drain hbegin .init hbpending frames (ending :: .ok last :: rr) hbctl
    (by rw [hbtransport]) hf
  obtain ⟨t, hrun, hctl, hpending, hrc, hseq, hroute, hlen, hctx, hhost, htransport, hok, hbad⟩ :=
    steps_initEnds hdrain hbpending hbctl rfl (congrArg Transport.sends hbtransport) he hlast
  rw [show 0 + 12 + 4 * frames.length + 6 = 18 + 4 * frames.length by omega] at hrun
  refine ⟨t, hrun, hctl, hpending, hrc.trans hbrc, ?executable, ?hubControl, ?others, hroute.trans hbroute, hlen, ?count,
    hhost.trans hbhost, ?transport, hok, fun hid => ?bad⟩
  case executable | hubControl =>
    rw [hseq, State.drained, hbseq]
    rfl
  case others =>
    intro c hx hh
    rw [hseq, State.drained, hbseq, SeqCounters.get_initSet _ hx hh]
  case count => simp [hctx, State.drained, hbn]
  case transport => simp [htransport, State.drained, hbtransport, ht]
  case bad => exact hbpiv ▸ hbad hid

end Sys2Proof.Machine

/-!
PROOF. INIT from the reset state (spec 70_reset R155, R160): what holds of every state that a run reaches with a Host that
presents INIT alone, whatever the Transport answers.
-/

namespace Sys2Proof.Machine

/-! ### The states of INIT's run from reset -/

/-- The counters that an INIT from reset has raised once it is in a phase (42_init R113): the soft reset's, then the
request's. -/
def initCounters : Phase → SeqCounters
  | .initResetTx | .initWaitReset | .initDiscardRx | .initWaitSettle | .initDrainRx | .initDrainWait =>
    SeqCounters.zero.set .executable 1#8
  | .initVerifyTx | .initVerifyRx => (SeqCounters.zero.set .executable 1#8).set .hubControl 1#8
  | _ => SeqCounters.zero

/-- An INIT from reset has not answered: it has raised the counters of its phase, and no flag. -/
structure InitUnanswered (t : State) : Prop where
  seq : t.seq = initCounters t.ctl
  rc : t.rc = false
  piv : t.piv = false
  response : t.response = none

/-- What a successful INIT leaves from reset (70_reset R160). -/
structure InitLeft (t : State) : Prop where
  seq : t.seq = (SeqCounters.zero.set .executable 1#8).set .hubControl 1#8
  rc : t.rc = false
  piv : t.piv = true
  lastCond : t.lastCond = .ok

/-- The states of a run from reset whose Host presents INIT and then nothing: before it is presented, before it is accepted,
in its phases, and after its response. -/
inductive InitRun (t : State) : Prop
  | waits (hc : t.ctl = .idle) (hp : t.pending = none) (hh : t.host = [.present (encode .init)]) (hu : InitUnanswered t)
  | presented (hc : t.ctl = .idle) (hp : t.pending = some (.presented (encode .init))) (hh : t.host = [])
      (hu : InitUnanswered t)
  | runs (hc : t.ctl.usedBy = [0x01#8]) (hh : t.host = []) (hu : InitUnanswered t)
  | ended (hc : t.ctl = .idle) (hp : t.pending = none) (hh : t.host = [])
      (hr : ∀ r, t.response = some r → r.cond = .ok → InitLeft t)

/-! ### The phases of INIT by what they are held on -/

theorem Phase.init_send {p : Phase} (hc : p.usedBy = [0x01#8]) (hs : p.heldOn = .send) :
    p = .initResetTx ∨ p = .initVerifyTx := by
  cases p <;> simp [Phase.usedBy, Phase.heldOn] at hc hs ⊢

theorem Phase.init_receive {p : Phase} (hc : p.usedBy = [0x01#8]) (hr : p.heldOn = .receive) :
    p = .initDiscardRx ∨ p = .initDrainRx ∨ p = .initVerifyRx := by
  cases p <;> simp [Phase.usedBy, Phase.heldOn] at hc hr ⊢

theorem Phase.init_wait {p : Phase} {n : Nat} (hc : p.usedBy = [0x01#8]) (hw : p.heldOn = .wait n) :
    p = .initWaitReset ∨ p = .initWaitSettle ∨ p = .initDrainWait := by
  cases p <;> simp [Phase.usedBy, Phase.heldOn] at hc hw ⊢

/-! ### What the core does in the phases of INIT -/

/-- An INIT that fails answers no OK (42_init R118). -/
theorem initRun_raise {u : State} {cond : Cond} (info : Info) (hp : u.pending = none) (hh : u.host = [])
    (hne : cond ≠ .ok) : InitRun (raise cond info u) :=
  .ended rfl hp hh fun r hr hok => absurd hok (by cases hr; exact hne)

section
variable {u : State} (hh : u.host = []) (hu : InitUnanswered u)
include hh hu

/-- INIT goes to a phase that has raised the same counters. -/
theorem InitUnanswered.goes {p : Phase} (hp : p.usedBy = [0x01#8]) (hq : initCounters p = initCounters u.ctl) :
    InitRun (u.setCtl p) :=
  .runs hp hh ⟨hu.seq.trans hq.symm, hu.rc, hu.piv, hu.response⟩

/-- INIT issues the frame that raises the counters of the phase that it goes to. -/
theorem InitUnanswered.issues {c : Channel} {body : List Byte} {p : Phase} (hp : p.usedBy = [0x01#8])
    (hq : initCounters p = (initCounters u.ctl).set c ((initCounters u.ctl).get c + 1#8)) :
    InitRun ((builtState c body u).setCtl p) :=
  .runs hp hh ⟨by simp [hu.seq, hq], hu.rc, hu.piv, hu.response⟩

/-- The end of INIT's drain issues the product-ID request (42_init R113). -/
theorem InitUnanswered.verifies (hc : u.ctl = .initDrainRx) : InitRun (verifyStart .initVerifyTx u) := by
  rw [verifyStart_eq]
  exact hu.issues hh rfl (by rw [hc]; rfl)

theorem afterSetup_initRun (hheld : u.ctl.heldOn = .setup) : InitRun (afterSetup u) := by
  rw [afterSetup_eq]
  exact hu.issues hh rfl (by rw [Phase.heldOn_setup hheld]; rfl)

/-- The verification that ends INIT, successful or not (42_init R112). -/
theorem InitUnanswered.verified (r : Nat) (hp : u.pending = none) (hc : u.ctl = .initVerifyRx) :
    InitRun (verifyReceived r u) := by
  rcases verifyReceived_cases r u with ⟨h, -⟩ | ⟨b, h⟩ <;> rw [h]
  · exact .ended rfl hp hh fun _ _ _ => ⟨hu.seq.trans (by rw [hc]; rfl), hu.rc, rfl, rfl⟩
  · exact initRun_raise _ hp hh nofun

end

section
variable {u : State} (hp : u.pending = none) (hc : u.ctl.usedBy = [0x01#8]) (hh : u.host = [])
  (hu : InitUnanswered u)
include hc hh hu

theorem afterSend_initRun (hheld : u.ctl.heldOn = .send) : InitRun (afterSend u) := by
  rcases Phase.init_send hc hheld with h | h <;> simp only [afterSend, h] <;> exact hu.goes hh rfl (by rw [h]; rfl)

theorem afterWait_initRun {n : Nat} (hheld : u.ctl.heldOn = .wait n) : InitRun (afterWait u) := by
  rcases Phase.init_wait hc hheld with h | h | h <;> simp only [afterWait, h]
  case inl | inr.inr => exact hu.goes hh rfl (by rw [h]; rfl)
  case inr.inl => exact .runs rfl hh ⟨hu.seq.trans (by rw [h]; rfl), hu.rc, hu.piv, hu.response⟩

include hp

theorem afterReceiveOk_initRun (r : Nat) (hheld : u.ctl.heldOn = .receive) : InitRun (afterReceiveOk r u) := by
  rcases Phase.init_receive hc hheld with h | h | h <;> simp only [afterReceiveOk, h]
  · exact hu.goes hh rfl (by rw [h]; rfl)
  · split
    · exact hu.verifies hh h
    · exact .runs rfl hh ⟨hu.seq.trans (by rw [h]; rfl), hu.rc, hu.piv, hu.response⟩
  · exact hu.verified hh r hp h

theorem afterReceiveErr_initRun (e : TErr) (hheld : u.ctl.heldOn = .receive) : InitRun (afterReceiveErr e u) := by
  rcases Phase.init_receive hc hheld with h | h | h <;> simp only [afterReceiveErr, h]
  · exact hu.goes hh rfl (by rw [h]; rfl)
  · exact hu.verifies hh h
  · exact initRun_raise _ hp hh nofun

end

/-! ### Every step of the run -/

/-- A step in a phase of INIT. -/
theorem step_runs {s t : State} (hc : s.ctl.usedBy = [0x01#8]) (hh : s.host = []) (hu : InitUnanswered s)
    (h : step s = .next t) : InitRun t := by
  have hbusy : s.ctl ≠ .idle := fun hidle => by
    rw [hidle] at hc
    cases hc
  have hu' : InitUnanswered s.taken := ⟨hu.seq, hu.rc, hu.piv, hu.response⟩
  have hur (r : Nat) : InitUnanswered (recordRx r s) := ⟨hu.seq, hu.rc, hu.piv, hu.response⟩
  cases step_move h with
  | reset _ _ hidle | presented _ _ _ hidle | refused _ _ hidle | command _ _ hidle => exact absurd hidle hbusy
  | rest | silent | answered | filled | spoiled | delayed =>
    exact .runs hc hh ⟨hu.seq, hu.rc, hu.piv, hu.response⟩
  | setup _ hheld => exact afterSetup_initRun hh hu' hheld
  | sent _ hheld => exact afterSend_initRun hc hh hu' hheld
  | failed e => exact initRun_raise _ rfl hh nofun
  | receiveFailed e _ hheld => exact afterReceiveErr_initRun (u := recordRx 0 s) rfl hc hh (hur 0) e hheld
  | received r _ hheld => exact afterReceiveOk_initRun (u := recordRx r s) rfl hc hh (hur r) r hheld
  | waited _ _ hheld => exact afterWait_initRun hc hh hu' hheld

/-- Every step of the run leads to one of its states. -/
theorem step_initRun (s t : State) (hs : InitRun s) (h : step s = .next t) : InitRun t := by
  cases hs with
  | waits hc hp hh hu =>
    rw [step_present hp hc hh rfl] at h
    cases h
    exact .presented hc rfl rfl ⟨hu.seq, hu.rc, hu.piv, hu.response⟩
  | presented hc hp hh hu =>
    rw [step_presented hp, commandDecodeEncode .init true rfl rfl] at h
    cases (exec_init hc).symm.trans h
    exact .runs rfl hh ⟨hu.seq.trans (by rw [hc]; rfl), hu.rc, hu.piv, rfl⟩
  | runs hc hh hu => exact step_runs hc hh hu h
  | ended hc hp hh hr =>
    rw [step_idle hp hc, hostStep, hh] at h
    cases h
    exact .ended hc hp hh hr

/-- Settles O47, by induction on the steps: of the states of the run only the last ones answer, and with OK only after a
successful verification. -/
theorem initFromResetLeaves : Obligations.InitFromResetLeaves := by
  intro transport n t r hrun hresp hok
  have ht : InitRun t := steps_induction step_initRun (.waits rfl rfl rfl ⟨rfl, rfl, rfl, rfl⟩) hrun
  have hsilent (hu : InitUnanswered t) : False := nomatch hu.response.symm.trans hresp
  cases ht with
  | waits _ _ _ hu | presented _ _ _ hu | runs _ _ hu => exact (hsilent hu).elim
  | ended hc _ _ hr =>
    obtain ⟨hseq, hrc, hpiv, hcond⟩ := hr r hresp hok
    refine ⟨by rw [hseq]; rfl, by rw [hseq]; rfl, fun c hx hh => ?_, hpiv, hrc, hc, hcond⟩
    rw [hseq, SeqCounters.get_initSet _ hx hh, SeqCounters.zero_get]

end Sys2Proof.Machine

/-!
PROOF. The enables (spec 43_enable): the interval in microseconds, and the set-feature frame that both of them send.
-/

namespace Sys2Proof.Machine

/-! ### The interval conversion -/

/-- The conversion narrows the exact product to 32 bits (43_enable R123). -/
theorem intervalUs_toNat (ms : Word) : (intervalUs ms).toNat = ms.toNat * 1000 % 4294967296 :=
  BitVec.toNat_ofNat _ _

/-- Settles O39: 4294967 ms is the largest interval whose product is below 2^32. -/
theorem intervalConversion : Obligations.IntervalConversion := by
  intro ms
  rw [intervalUs_toNat]
  refine ⟨rfl, fun hexact => Nat.mod_eq_of_lt (by omega), fun hwraps => ?_, rfl⟩
  calc ms.toNat * 1000 % 4294967296
    _ < 4294967296 := Nat.mod_lt _ (by decide)
    _ ≤ ms.toNat * 1000 := by omega

/-! ### The set-feature frame -/

theorem builtFrame_setFeature (q id : Byte) (us : Word) :
    builtFrame .hubControl q (setFeatureBody id us) =
      [0x15#8, 0x00#8, 0x02#8, q, 0xFD#8, id, 0x00#8, 0x00#8, 0x00#8,
        us.extractLsb' 0 8, us.extractLsb' 8 8, us.extractLsb' 16 8, us.extractLsb' 24 8]
        ++ List.replicate 8 0x00#8 := by
  rw [builtFrame, setFeatureBody_length]
  rfl

/-- The set-feature frame is issued (43_enable R125). -/
theorem enable_sendIssued {s : State} (hp : s.pending = none) (id : Byte) (ms : Word) :
    SendIssued .hubControl (builtFrame .hubControl (s.seq.hubControl + 1#8) (setFeatureBody id (intervalUs ms)))
      .enableTx s (enable id ms s) := by
  rw [enable_eq]
  exact sendIssued_builtState rfl hp

/-- Settles O37: acceptance, and then the frame is issued; `intervalUs` is the only word of the value given. -/
theorem enablesSendSetFeature : Obligations.EnablesSendSetFeature := by
  intro s id ms us hc hus
  obtain rfl : us = intervalUs ms := BitVec.eq_of_toNat_eq (hus.trans (intervalUs_toNat ms).symm)
  rw [← builtFrame_setFeature, ← builtFrame_setFeature]
  exact ⟨⟨_, accept_idle _ _ _ _ _ _ _ hc, enable_sendIssued rfl id ms⟩,
    ⟨_, accept_idle _ _ _ _ _ _ _ hc, enable_sendIssued rfl Config.rotationVectorId ms⟩⟩

end Sys2Proof.Machine

/-!
PROOF. The Host's single operations (spec 44_host_ops): SOFT_RESET and SEND_FRAME up to their send, and the readouts.
-/

namespace Sys2Proof.Machine

/-! ### The commands that send one frame -/

/-- `tx_frame` of a body that fits issues its frame (40_codec R88). -/
theorem txFrame_sendIssued {c : Channel} {body : List Byte} {p : Phase} {s : State}
    (hfit : body.length + Config.hdr ≤ Config.txCap) (hs : p.heldOn = .send) (hp : s.pending = none) :
    SendIssued c (builtFrame c (s.seq.get c + 1#8) body) p s (txFrame c body p s) := by
  rw [txFrame_fits _ _ _ _ hfit]
  exact sendIssued_builtState hs hp

/-- Settles O35: acceptance, and then the one-byte body's frame is issued. -/
theorem softResetSendsItsFrame : Obligations.SoftResetSendsItsFrame := fun _ hc =>
  ⟨_, acceptPlain_idle hc _ _, txFrame_sendIssued (c := .executable) (body := softResetBody) (by decide) rfl rfl⟩

/-- A built frame is its length, low byte first, its channel, its count and its body (30_encoding R57). -/
theorem builtFrame_bytes (c : Channel) (q : Byte) (body : List Byte) :
    builtFrame c q body =
      [(BitVec.ofNat 16 (body.length + 4)).extractLsb' 0 8, (BitVec.ofNat 16 (body.length + 4)).extractLsb' 8 8,
        c.toByte, q] ++ body := by
  rw [builtFrame_eq, ← lengthByte_low, ← lengthByte_high]
  rfl

/-! ### Commands that answer at acceptance -/

/-- A response given while idle leaves every register as it is (60_exceptions R143). -/
theorem respond_idle {s : State} (hc : s.ctl = .idle) (cond : Cond) (value : Word) (route : Route) (info : Info) :
    respond cond value route info s =
      { s with response := some { cond := cond, value := value, route := route, info := info } } := by
  rw [respond, ← hc]
  rfl

/-- A condition raised while idle writes LAST_COND alone (60_exceptions R144). -/
theorem raise_idle {s : State} (hc : s.ctl = .idle) (cond : Cond) (info : Info) :
    raise cond info s =
      { s with
        lastCond := cond
        response := some { cond := cond, value := 0#32, route := .none, info := info } } :=
  respond_idle (s := s.setLastCond cond) hc cond 0#32 .none info

/-- Settles O38: acceptance, and then the body either fits TX behind its header or is oversized. -/
theorem sendFrameSendsTheBody : Obligations.SendFrameSendsTheBody := by
  intro s c body hc
  have haccept := accept_idle 0x06#8 c.toByte (BitVec.ofNat 16 body.length) 0#32 body s (txFrame c body .sendTx) hc
  refine ⟨fun hfit => ⟨_, haccept, ?issued⟩, fun hover => haccept.trans (congrArg Host.Outcome.next ?oversized)⟩
  case issued =>
    rw [← builtFrame_bytes]
    exact txFrame_sendIssued (Nat.add_le_add_right hfit 4) rfl rfl
  case oversized =>
    rw [txFrame_oversized _ _ _ _ (Nat.add_lt_add_right hover 4)]
    exact raise_idle ((accepted_ctl ..).trans hc) _ _

/-- A readout command answers at acceptance with the value it reads (44_host_ops R134 to R136). -/
theorem accept_readOut {s : State} (hc : s.ctl = .idle) (op a8 : Byte) (a16 : Half) (value : State → Word) :
    accept op a8 a16 0#32 [] (readOut value) s =
      .next { accepted op a8 a16 0#32 [] s with
        response := some
          { cond := .ok, value := value (accepted op a8 a16 0#32 [] s), route := .none, info := .absent } } := by
  rw [accept_idle _ _ _ _ _ _ _ hc]
  exact congrArg Host.Outcome.next (respond_idle ((accepted_ctl ..).trans hc) _ _ _ _)

/-- Settles O40: each readout's value is one that acceptance does not write. -/
theorem readoutCommandsAnswer : Obligations.ReadoutCommandsAnswer := fun _ hc =>
  ⟨fun off => accept_readOut hc 0x0B#8 0#8 (offsetField off) fun t => byteValue (t.rxByte (offsetOf off)),
    fun c => accept_readOut hc 0x0C#8 (channelField c) 0#16 fun t => byteValue (t.seq.get c),
    accept_readOut hc 0x0D#8 0#8 0#16 statusWord⟩

end Sys2Proof.Machine

/-!
PROOF. Events and conditions (spec 60_exceptions): the event that the core is handed and the move that it always has on
it, the condition code that no step produces, corrupt frames in HANDLE_ONE, and the receives that fail.
-/

namespace Sys2Proof.Machine

/-! ### The core's step on the event that it is handed -/

/-- A run of the core hands it nothing. -/
theorem CoreRun.pending {u t : State} (h : CoreRun u t) : t.pending = u.pending := by
  cases h with
  | holds | issues => rfl
  | answers hf => cases hf <;> rfl

/-- A host command has a move in the idle core (44_host_ops R127). -/
theorem exec_command_idle {s : State} {i : Instr} (hi : i.isCommand = true) (hc : s.ctl = .idle) :
    ∃ t, exec i s = .next t ∧ t.pending = none := by
  have hnext : ∃ t, exec i s = .next t := by
    cases i with
    | init | softReset | verifyProductId | enableReport | enableRotationVector | sendFrame | receivePacket | handleOne
    | eatOne | eatAll | readRx | readSeq | readStatus => exact ⟨_, if_pos hc⟩
    | _ => cases hi
  obtain ⟨t, ht⟩ := hnext
  obtain ⟨-, _, _, _, _, _, hstart⟩ := exec_command hi ht
  exact ⟨t, ht, hstart.coreRun.pending⟩

/-- A whole command presented to the idle core is run or refused (44_host_ops R127, R128). -/
theorem step_presented_idle {s : State} {bytes : List Byte} (hp : s.pending = some (.presented bytes))
    (hc : s.ctl = .idle) (ht : isTransfer bytes = true) : ∃ t, step s = .next t ∧ t.pending = none := by
  rw [step_presented hp]
  cases hd : decodeCommand bytes with
  | ok i => exact exec_command_idle (decodeCommand_isCommand hd) hc
  | error r =>
    have hr : r ≠ .transfer := fun he => (isTransfer_iff bytes).mp ht (he ▸ hd)
    have hrefused : refuseCommand s = .next (badCommand s.taken) := if_pos hc
    cases r with
    | transfer => exact absurd rfl hr
    | _ => exact ⟨_, hrefused, rfl⟩

/-- The core has a move on every event that answers what it is held on, and takes it (60_exceptions R150). -/
theorem step_handed {s : State} {ev : Event} (hs : EventFitsPhase s) (hp : s.pending = some ev) :
    ∃ t, step s = .next t ∧ t.pending = none := by
  rw [EventFitsPhase, hp] at hs
  cases ev with
  | presented bytes =>
    obtain ⟨hc, ht⟩ := hs
    exact step_presented_idle hp hc ht
  | answeredOk =>
    rcases hs with hc | hc
    · exact ⟨_, step_setup_ok hp hc, (afterSetup_coreRun (u := s.taken) (Phase.heldOn_setup hc)).pending⟩
    · exact ⟨_, step_send_ok hp hc, (afterSend_coreRun _).pending⟩
  | received r =>
    obtain ⟨hc, hr⟩ := hs
    exact ⟨_, step_received hp hc hr, (afterReceiveOk_coreRun (recordRx_rxLen s hr)).pending⟩
  | answeredErr e =>
    rcases hs with hc | hc | hc
    · exact ⟨_, step_setup_err hp hc, rfl⟩
    · exact ⟨_, step_send_err hp hc, rfl⟩
    · exact ⟨_, step_receive_err hp hc, (afterReceiveErr_coreRun e _).pending⟩
  | waited =>
    obtain ⟨n, hc⟩ := hs
    exact ⟨_, step_waited hp hc, (afterWait_coreRun _).pending⟩

/-! ### The other agents' steps -/

theorem eventFitsPhase_none {t : State} (h : t.pending = none) : EventFitsPhase t := by
  rw [EventFitsPhase, h]
  trivial

/-- What an agent hands a core that has no event answers what the core is held on (60_exceptions R150). -/
theorem step_unhanded_eventFitsPhase {s t : State} (hp : s.pending = none) (h : step s = .next t) :
    EventFitsPhase t := by
  cases step_move h with
  | rest | silent => exact eventFitsPhase_none hp
  | reset => exact eventFitsPhase_none rfl
  | presented bytes _ _ hc ht => exact ⟨hc, ht⟩
  | answered _ ev _ hc hev =>
    obtain rfl | ⟨e, rfl⟩ := hev
    · exact hc
    · exact hc.imp_right .inl
  | filled _ frame _ hc hfit => exact ⟨hc, hfit⟩
  | spoiled _ e _ hc => exact .inr (.inr hc)
  | delayed n _ hc => exact ⟨n, hc⟩
  | refused _ he | command _ he | setup he | sent he | failed _ he | receiveFailed _ he | received _ he | waited _ he =>
    rw [hp] at he
    cases he

/-- The Host leaves its contract only by presenting other bytes than a transfer (30_encoding R74). -/
theorem hostStep_fault {s : State} {r : Fault} (h : hostStep s = .fault r) : r = .commandTransfer := by
  unfold hostStep at h
  split at h
  · cases h
  · cases h
  · split at h <;> cases h
    rfl

/-- The Transport leaves its contract only by overrunning RX (20_memory R40). -/
theorem handReceive_fault {p : ReceiveAnswer × State} {r : Fault} (h : handReceive p = .fault r) :
    r = .receiveOverrun := by
  unfold handReceive at h
  split at h
  · cases h
  · split at h <;> cases h
    rfl
  · cases h

/-- The faults of a step of the other agents (30_encoding R74, 20_memory R40; log 9, 11). -/
theorem step_unhanded_fault {s : State} {r : Fault} (hp : s.pending = none) (h : step s = .fault r) :
    r = .commandTransfer ∨ r = .receiveOverrun := by
  rw [step_agent hp] at h
  cases hc : s.ctl.heldOn <;> simp only [hc, transportStep] at h
  case host => exact .inl (hostStep_fault h)
  case receive => exact .inr (handReceive_fault h)
  all_goals cases h

/-- Settles O55: the other agents hand the core only what answers it, and on that the core has a move. -/
theorem stepKeepsEventFitsPhase : Obligations.StepKeepsEventFitsPhase := by
  intro s hs
  rcases hp : s.pending with _ | ev
  · exact ⟨fun t h => step_unhanded_eventFitsPhase hp h, fun r h => ⟨step_unhanded_fault hp h, rfl⟩⟩
  · obtain ⟨u, hu, hnone⟩ := step_handed hs hp
    refine ⟨fun t h => ?_, fun r h => ?_⟩ <;> rw [hu] at h <;> cases h
    exact eventFitsPhase_none hnone

/-! ### The condition that no rule raises -/

/-- A command that ends with another condition, in LAST_COND and in its response, does not produce code 3. -/
theorem noFirmwareCondition_answered {t : State} {r : Response} (hcond : t.lastCond ≠ .invalidFirmwareVersion)
    (hresp : t.response = some r) (hr : r.cond ≠ .invalidFirmwareVersion) : NoFirmwareCondition t := by
  refine ⟨hcond, fun r' h => ?_⟩
  rw [hresp] at h
  cases h
  exact hr

theorem raise_noFirmwareCondition {cond : Cond} (h : cond ≠ .invalidFirmwareVersion) (info : Info) (u : State) :
    NoFirmwareCondition (raise cond info u) := noFirmwareCondition_answered h rfl h

theorem complete_noFirmwareCondition (value : Word) (u : State) : NoFirmwareCondition (complete value u) :=
  noFirmwareCondition_answered nofun rfl nofun

theorem handled_noFirmwareCondition {cond : Cond} (h : cond ≠ .invalidFirmwareVersion) (rt : Route) (count : Word)
    (u : State) : NoFirmwareCondition (handled cond rt count u) := noFirmwareCondition_answered h rfl nofun

theorem verifyReceived_noFirmwareCondition (r : Nat) (u : State) : NoFirmwareCondition (verifyReceived r u) := by
  rcases verifyReceived_cases r u with ⟨h, -⟩ | ⟨b, h⟩ <;> rw [h]
  · exact complete_noFirmwareCondition _ _
  · exact raise_noFirmwareCondition (by decide) _ _

theorem handleReceived_noFirmwareCondition (r : Nat) (u : State) : NoFirmwareCondition (handleReceived r u) := by
  obtain ⟨cond, rt, count, f, h, hcond, -⟩ := handleReceived_cases r u
  rw [h]
  exact handled_noFirmwareCondition (by rcases hcond with rfl | rfl <;> nofun) _ _ _

section
variable {u : State} (h : NoFirmwareCondition u)
include h

/-- An answer that leaves LAST_COND, as a readout command gives. -/
theorem respond_noFirmwareCondition (value : Word) (route : Route) (info : Info) :
    NoFirmwareCondition (respond .ok value route info u) := noFirmwareCondition_answered h.1 rfl nofun

/-- Acceptance empties the port and leaves LAST_COND (44_host_ops R127). -/
theorem accepted_noFirmwareCondition (op a8 : Byte) (a16 : Half) (intervalMs : Word) (body : List Byte) :
    NoFirmwareCondition (accepted op a8 a16 intervalMs body u) := ⟨h.1, nofun⟩

theorem CommandStart.noFirmwareCondition {t : State} {op a8 : Byte} {a16 : Half} {intervalMs : Word} {body : List Byte}
    (ht : CommandStart u a8 a16 intervalMs body op t) : NoFirmwareCondition t := by
  have haccepted := accepted_noFirmwareCondition h op a8 a16 intervalMs body
  cases ht with
  | oversized => exact raise_noFirmwareCondition (by decide) _ _
  | read => exact respond_noFirmwareCondition haccepted _ _ _
  | _ => exact haccepted

theorem verifyStart_noFirmwareCondition (p : Phase) : NoFirmwareCondition (verifyStart p u) := by
  rw [verifyStart_eq]
  exact h

theorem afterSetup_noFirmwareCondition : NoFirmwareCondition (afterSetup u) := by
  rw [afterSetup_eq]
  exact h

theorem afterSend_noFirmwareCondition : NoFirmwareCondition (afterSend u) := by
  cases hc : u.ctl <;> simp only [afterSend, hc]
  case softResetTx | enableTx | sendTx => exact complete_noFirmwareCondition _ _
  all_goals exact h

theorem afterWait_noFirmwareCondition : NoFirmwareCondition (afterWait u) := by
  unfold afterWait
  split <;> exact h

theorem afterReceiveErr_noFirmwareCondition (e : TErr) : NoFirmwareCondition (afterReceiveErr e u) := by
  cases hc : u.ctl <;> simp only [afterReceiveErr, hc]
  case initDrainRx => exact verifyStart_noFirmwareCondition h _
  case initVerifyRx | verifyRx | recvRx => exact raise_noFirmwareCondition (by decide) _ _
  case handleRx => exact handled_noFirmwareCondition (by decide) _ _ _
  case eatRx | eatAllRx => exact noFirmwareCondition_answered nofun rfl nofun
  all_goals exact h

theorem afterReceiveOk_noFirmwareCondition (r : Nat) : NoFirmwareCondition (afterReceiveOk r u) := by
  cases hc : u.ctl <;> simp only [afterReceiveOk, hc]
  case initDrainRx =>
    split
    · exact verifyStart_noFirmwareCondition h _
    · exact h
  case initVerifyRx | verifyRx => exact verifyReceived_noFirmwareCondition r u
  case recvRx | eatRx => exact complete_noFirmwareCondition _ _
  case handleRx => exact handleReceived_noFirmwareCondition r u
  case eatAllRx =>
    split
    · exact noFirmwareCondition_answered nofun rfl nofun
    · exact h
  all_goals exact h

end

/-- Settles O52: a step leaves LAST_COND and the response alone, empties the port, or ends a command with another
condition. -/
theorem stepNeverProducesFirmwareCondition : Obligations.StepNeverProducesFirmwareCondition := by
  intro s t hs h
  cases step_move h with
  | reset => exact ⟨nofun, nofun⟩
  | rest | presented | silent | answered | filled | spoiled | delayed => exact hs
  | refused | failed => exact raise_noFirmwareCondition (by decide) _ _
  | command _ _ _ ht => exact ht.noFirmwareCondition hs
  | setup => exact afterSetup_noFirmwareCondition (u := s.taken) hs
  | sent => exact afterSend_noFirmwareCondition (u := s.taken) hs
  | waited => exact afterWait_noFirmwareCondition (u := s.taken) hs
  | receiveFailed e => exact afterReceiveErr_noFirmwareCondition (u := recordRx 0 s) hs e
  | received r => exact afterReceiveOk_noFirmwareCondition (u := recordRx r s) hs r

/-! ### Corrupt frames in HANDLE_ONE -/

/-- A corrupt frame does not parse, or is an advertisement that the walk rejects (60_exceptions R141). -/
theorem CorruptReceived.route_rejects {check : Bool} {frame : List Byte} {v : View} (h : CorruptReceived check frame)
    (hv : parse check frame = some v) (s : State) : route v s = (.none, false, s) := by
  obtain ⟨b0, b1, hf⟩ := parse_some hv
  rcases h with hshort | ⟨rfl, hlen⟩ | ⟨_, _, _, stream, hadv, hstream⟩
  · rw [parse_short _ hshort] at hv
    cases hv
  · obtain ⟨-, hparse⟩ := parseValidatesLength true frame
    rw [hparse _ _ _ _ _ hf, if_pos ⟨rfl, hlen⟩] at hv
    cases hv
  · rw [hadv] at hf
    injection hf with _ hf
    injection hf with _ hf
    injection hf with hchan hf
    injection hf with _ hbody
    have hid : v.reportId = some Config.advertisementId := by rw [View.reportId, ← hchan, ← hbody]; rfl
    rw [route_command s (by rw [← hchan]; rfl) hid, if_pos rfl, ← hbody, if_neg (mt (tlvOk_cons_iff _ _).mp hstream)]

/-- HANDLE_ONE answers count 0 and records CorruptFrame for a corrupt frame (41_dispatch R109). -/
theorem handleReceived_corrupt {r : Nat} {s : State} (hr : r ≠ 0) (h : CorruptReceived s.lengthCheck (s.rxBytes r)) :
    handleReceived r s = handled .corruptFrame .none 0#32 s := by
  rw [handleReceived, if_neg hr]
  cases hv : parse s.lengthCheck (s.rxBytes r) with
  | none => rfl
  | some v => simp only [h.route_rejects hv]

/-- Settles O28: what HANDLE_ONE receives is the frame in RX, and it is corrupt. -/
theorem corruptFrameRoutesNothing : Obligations.CorruptFrameRoutesNothing := by
  intro s frame hc ⟨hp, hframe⟩ hne hlen hcorrupt
  have hhandle : handleReceived frame.length (recordRx frame.length s)
      = handled .corruptFrame .none 0#32 (recordRx frame.length s) :=
    handleReceived_corrupt (mt List.length_eq_zero_iff.mp hne) (hframe.symm ▸ hcorrupt)
  rw [step_received hp (hc ▸ rfl) hlen, afterReceiveOk, recordRx_ctl, hc]
  exact congrArg _ (hhandle.trans (handled_recordRx _ _ _ _ _))

/-! ### Receives that fail -/

/-- Settles O33: each phase by what it makes of `Err(e)`. -/
theorem receiveErrors : Obligations.ReceiveErrors := by
  intro s e hp
  have failed {p : Phase} (hc : s.ctl = p) (hheld : p.heldOn = .receive) :
      step s = .next (afterReceiveErr e (recordRx 0 s)) := step_receive_err hp (hc ▸ hheld)
  refine ⟨?fatal, ?discard, ?eatOne, ?eatAll⟩
  case fatal =>
    rintro (hc | hc | hc) <;> rw [failed hc rfl, afterReceiveErr, recordRx_ctl, hc] <;> rfl
  all_goals
    intro hc
    rw [failed hc rfl, afterReceiveErr, recordRx_ctl, hc]
    rfl

end Sys2Proof.Machine
